-- ==== Sys2Proof/Word.lean ====
section
/-!
DEFINITION. The two word types of the core (00_scope.md R6: data width 8, address width 16).
Arithmetic on them wraps modulo 256 and modulo 65536, which is BitVec's own arithmetic (10_state.md R33).
-/
namespace Sys2Proof

/-- `XLEN = 8`: a register, a bus datum, an operand byte (00_scope.md R6). -/
abbrev Byte := BitVec 8

/-- `ALEN = 16`: the program counter, an address (00_scope.md R6). -/
abbrev Word := BitVec 16

end Sys2Proof
end

