-- ==== Sys2Proof/Config.lean ====
section
/-!
DEFINITION. What is fixed for this hardware (00_scope.md R6), the names of the opcode table's columns
(30_encoding.md R73, R75, R76), and the free values the spec leaves open (93_implementation_defined.md Part U).
-/
namespace Sys2Proof

/-- The thirteen addressing modes, under the abbreviations of 30_encoding.md R73. -/
inductive Mode where
  | imp | acc | imm | zp | zpx | zpy | abs | abx | aby | ind | izx | izy | rel
  deriving DecidableEq, Repr

/-- The 56 mnemonics of 30_encoding.md R76, in the order of the instruction files. -/
inductive Mnemonic where
  | lda | ldx | ldy | sta | stx | sty | tax | tay | tsx | txa | txs | tya
  | adc | sbc | and | ora | eor | bit | cmp | cpx | cpy
  | asl | lsr | rol | ror | inc | dec | inx | iny | dex | dey
  | bcc | bcs | beq | bne | bmi | bpl | bvc | bvs | jmp | jsr | rts
  | pha | pla | php | plp | clc | sec | cli | sei | cld | sed | clv | nop | brk | rti
  deriving DecidableEq, Repr

/-- One bus transaction with the byte that passed (20_memory.md R40, R41). -/
inductive BusTxn where
  | read (addr : Word) (value : Byte)
  | write (addr : Word) (value : Byte)
  deriving DecidableEq, Repr

/-- What is attached at `0x2000..0xFFFF`, the parameter `HighRegion` (00_scope.md R6, 20_memory.md R46, R47). -/
inductive HighRegion where
  /-- No device: a read is any byte, a write changes nothing (R46). The spec's default. -/
  | openBus
  /-- FlatBus: 57344 bytes of plain RAM, not mirrored (R47). -/
  | flatRam
  /-- A collaborator's device: its read function gives the value, its write function takes it (R46). -/
  | device
  deriving DecidableEq, Repr

/-- First address above the mirrored RAM, `RAM_MIRROR_LIMIT` (00_scope.md R6). -/
def Config.ramMirrorLimit : Nat := 0x2000

/-- Mask that folds a low address onto the 2048 bytes of RAM (00_scope.md R6, 20_memory.md R44). -/
def Config.ramMask : Word := 0x07FF#16

/-- `STACK_BASE` (00_scope.md R6). -/
def Config.stackBase : Word := 0x0100#16

/-- Low byte of `BRK_VECTOR` (00_scope.md R6, 20_memory.md R50). -/
def Config.brkVectorLow : Word := 0xFFFE#16

/-- High byte of `BRK_VECTOR` (00_scope.md R6, 20_memory.md R50). -/
def Config.brkVectorHigh : Word := 0xFFFF#16

/-- The `RESET_VECTOR` that State.reset uses. The spec leaves it to the host (00_scope.md R6, R261).
DESIGN CHOICE, unsafe for a claim about State.reset alone: the address of the spec's own vectors (log 1). -/
def Config.resetVector : Word := 0x0200#16

/-- What a byte of memory that `mem` does not list reads as. The spec leaves `RamInit` open (20_memory.md R58).
DESIGN CHOICE, unsafe for a claim that starts from an empty `mem`: zero (log 3). -/
def Config.unwrittenByte : Byte := 0x00#8

/-- Free value: the `k`-th drawn byte, used for a read of the open bus (20_memory.md R46; U2) and for the
data latch after Reset (10_state.md R35; U6). No body, so nothing can be proved of it; safe (log 5). -/
opaque Config.freeByte : Nat → Byte

/-- Free value: the `k`-th drawn address-width value, used for `temp` after a step (10_state.md R30) and for
the 16-bit latches after Reset (R35; U6). No body; safe (log 9). -/
opaque Config.freeWord : Nat → Word

/-- The byte a device in HighRegion answers to a read of `addr`, given every transaction it has seen so far
(20_memory.md R46: its read function may depend on and change device state). No body; safe (log 6). -/
opaque Config.deviceRead : (seen : List BusTxn) → (addr : Word) → Byte

end Sys2Proof
end

