-- ==== Sys2Proof/Machine/Bits.lean ====
section
/-!
DEFINITION. Byte order, extension and page of an address: the bit-level helpers that the decoder, the operand
forms and the meanings share (00_scope.md section 7, 20_memory.md R50).
-/
namespace Sys2Proof.Machine

/-- `hi:lo`, the 16-bit value `lo | (hi << 8)` (00_scope.md section 7, 30_encoding.md R72). -/
def joinBytes (hi lo : Byte) : Word := lo.setWidth 16 ||| hi.setWidth 16 <<< 8

/-- Bits 7..0 of a 16-bit value. -/
def lowByte (w : Word) : Byte := w.extractLsb' 0 8

/-- Bits 15..8 of a 16-bit value: the page of an address (00_scope.md section 8). -/
def highByte (w : Word) : Byte := w.extractLsb' 8 8

/-- `zext_16` (00_scope.md section 7). -/
def zext16 (b : Byte) : Word := b.setWidth 16

/-- `sext_16` (00_scope.md section 7). -/
def sext16 (b : Byte) : Word := b.signExtend 16

/-- `zext_9` (00_scope.md section 7). -/
def zext9 (b : Byte) : BitVec 9 := b.setWidth 9

/-- Bit `k` of an 8-bit value, `v[k]` (00_scope.md section 7). -/
def bitOf (v : Byte) (k : Nat) : Bool := v.getLsbD k

end Sys2Proof.Machine
end

