-- ==== Sys2Proof/Syntax.lean ====
section
/-!
DEFINITION. The instruction set as syntax: one constructor per row of spec/opcode_table.json (30_encoding.md R76),
named by mnemonic and addressing mode. A one-byte operand is carried as the byte itself, a two-byte operand as the
16-bit value `hi:lo` (R71, R72).
-/
namespace Sys2Proof

/-- The 151 legal instructions (30_encoding.md R76). A relative operand is the displacement byte as it stands in
memory (R72). -/
inductive Instr where
  /-- `LDA` IMM, opcode `A9` (R120, R98). -/
  | ldaImm (operand : Byte)
  /-- `LDA` ZP, opcode `A5` (R120, R99). -/
  | ldaZp (operand : Byte)
  /-- `LDA` ZPX, opcode `B5` (R120, R100). -/
  | ldaZpx (operand : Byte)
  /-- `LDA` ABS, opcode `AD` (R120, R102). -/
  | ldaAbs (operand : Word)
  /-- `LDA` ABX, opcode `BD` (R120, R103). -/
  | ldaAbx (operand : Word)
  /-- `LDA` ABY, opcode `B9` (R120, R104). -/
  | ldaAby (operand : Word)
  /-- `LDA` IZX, opcode `A1` (R120, R106). -/
  | ldaIzx (operand : Byte)
  /-- `LDA` IZY, opcode `B1` (R120, R107). -/
  | ldaIzy (operand : Byte)
  /-- `LDX` IMM, opcode `A2` (R121, R98). -/
  | ldxImm (operand : Byte)
  /-- `LDX` ZP, opcode `A6` (R121, R99). -/
  | ldxZp (operand : Byte)
  /-- `LDX` ZPY, opcode `B6` (R121, R101). -/
  | ldxZpy (operand : Byte)
  /-- `LDX` ABS, opcode `AE` (R121, R102). -/
  | ldxAbs (operand : Word)
  /-- `LDX` ABY, opcode `BE` (R121, R104). -/
  | ldxAby (operand : Word)
  /-- `LDY` IMM, opcode `A0` (R122, R98). -/
  | ldyImm (operand : Byte)
  /-- `LDY` ZP, opcode `A4` (R122, R99). -/
  | ldyZp (operand : Byte)
  /-- `LDY` ZPX, opcode `B4` (R122, R100). -/
  | ldyZpx (operand : Byte)
  /-- `LDY` ABS, opcode `AC` (R122, R102). -/
  | ldyAbs (operand : Word)
  /-- `LDY` ABX, opcode `BC` (R122, R103). -/
  | ldyAbx (operand : Word)
  /-- `STA` ZP, opcode `85` (R123, R99). -/
  | staZp (operand : Byte)
  /-- `STA` ZPX, opcode `95` (R123, R100). -/
  | staZpx (operand : Byte)
  /-- `STA` ABS, opcode `8D` (R123, R102). -/
  | staAbs (operand : Word)
  /-- `STA` ABX, opcode `9D` (R123, R103). -/
  | staAbx (operand : Word)
  /-- `STA` ABY, opcode `99` (R123, R104). -/
  | staAby (operand : Word)
  /-- `STA` IZX, opcode `81` (R123, R106). -/
  | staIzx (operand : Byte)
  /-- `STA` IZY, opcode `91` (R123, R107). -/
  | staIzy (operand : Byte)
  /-- `STX` ZP, opcode `86` (R124, R99). -/
  | stxZp (operand : Byte)
  /-- `STX` ZPY, opcode `96` (R124, R101). -/
  | stxZpy (operand : Byte)
  /-- `STX` ABS, opcode `8E` (R124, R102). -/
  | stxAbs (operand : Word)
  /-- `STY` ZP, opcode `84` (R125, R99). -/
  | styZp (operand : Byte)
  /-- `STY` ZPX, opcode `94` (R125, R100). -/
  | styZpx (operand : Byte)
  /-- `STY` ABS, opcode `8C` (R125, R102). -/
  | styAbs (operand : Word)
  /-- `TAX` IMP, opcode `AA` (R126, R96). -/
  | tax
  /-- `TAY` IMP, opcode `A8` (R127, R96). -/
  | tay
  /-- `TSX` IMP, opcode `BA` (R128, R96). -/
  | tsx
  /-- `TXA` IMP, opcode `8A` (R129, R96). -/
  | txa
  /-- `TXS` IMP, opcode `9A` (R130, R96). -/
  | txs
  /-- `TYA` IMP, opcode `98` (R131, R96). -/
  | tya
  /-- `ADC` IMM, opcode `69` (R140, R98). -/
  | adcImm (operand : Byte)
  /-- `ADC` ZP, opcode `65` (R140, R99). -/
  | adcZp (operand : Byte)
  /-- `ADC` ZPX, opcode `75` (R140, R100). -/
  | adcZpx (operand : Byte)
  /-- `ADC` ABS, opcode `6D` (R140, R102). -/
  | adcAbs (operand : Word)
  /-- `ADC` ABX, opcode `7D` (R140, R103). -/
  | adcAbx (operand : Word)
  /-- `ADC` ABY, opcode `79` (R140, R104). -/
  | adcAby (operand : Word)
  /-- `ADC` IZX, opcode `61` (R140, R106). -/
  | adcIzx (operand : Byte)
  /-- `ADC` IZY, opcode `71` (R140, R107). -/
  | adcIzy (operand : Byte)
  /-- `SBC` IMM, opcode `E9` (R141, R98). -/
  | sbcImm (operand : Byte)
  /-- `SBC` ZP, opcode `E5` (R141, R99). -/
  | sbcZp (operand : Byte)
  /-- `SBC` ZPX, opcode `F5` (R141, R100). -/
  | sbcZpx (operand : Byte)
  /-- `SBC` ABS, opcode `ED` (R141, R102). -/
  | sbcAbs (operand : Word)
  /-- `SBC` ABX, opcode `FD` (R141, R103). -/
  | sbcAbx (operand : Word)
  /-- `SBC` ABY, opcode `F9` (R141, R104). -/
  | sbcAby (operand : Word)
  /-- `SBC` IZX, opcode `E1` (R141, R106). -/
  | sbcIzx (operand : Byte)
  /-- `SBC` IZY, opcode `F1` (R141, R107). -/
  | sbcIzy (operand : Byte)
  /-- `AND` IMM, opcode `29` (R142, R98). -/
  | andImm (operand : Byte)
  /-- `AND` ZP, opcode `25` (R142, R99). -/
  | andZp (operand : Byte)
  /-- `AND` ZPX, opcode `35` (R142, R100). -/
  | andZpx (operand : Byte)
  /-- `AND` ABS, opcode `2D` (R142, R102). -/
  | andAbs (operand : Word)
  /-- `AND` ABX, opcode `3D` (R142, R103). -/
  | andAbx (operand : Word)
  /-- `AND` ABY, opcode `39` (R142, R104). -/
  | andAby (operand : Word)
  /-- `AND` IZX, opcode `21` (R142, R106). -/
  | andIzx (operand : Byte)
  /-- `AND` IZY, opcode `31` (R142, R107). -/
  | andIzy (operand : Byte)
  /-- `ORA` IMM, opcode `09` (R143, R98). -/
  | oraImm (operand : Byte)
  /-- `ORA` ZP, opcode `05` (R143, R99). -/
  | oraZp (operand : Byte)
  /-- `ORA` ZPX, opcode `15` (R143, R100). -/
  | oraZpx (operand : Byte)
  /-- `ORA` ABS, opcode `0D` (R143, R102). -/
  | oraAbs (operand : Word)
  /-- `ORA` ABX, opcode `1D` (R143, R103). -/
  | oraAbx (operand : Word)
  /-- `ORA` ABY, opcode `19` (R143, R104). -/
  | oraAby (operand : Word)
  /-- `ORA` IZX, opcode `01` (R143, R106). -/
  | oraIzx (operand : Byte)
  /-- `ORA` IZY, opcode `11` (R143, R107). -/
  | oraIzy (operand : Byte)
  /-- `EOR` IMM, opcode `49` (R144, R98). -/
  | eorImm (operand : Byte)
  /-- `EOR` ZP, opcode `45` (R144, R99). -/
  | eorZp (operand : Byte)
  /-- `EOR` ZPX, opcode `55` (R144, R100). -/
  | eorZpx (operand : Byte)
  /-- `EOR` ABS, opcode `4D` (R144, R102). -/
  | eorAbs (operand : Word)
  /-- `EOR` ABX, opcode `5D` (R144, R103). -/
  | eorAbx (operand : Word)
  /-- `EOR` ABY, opcode `59` (R144, R104). -/
  | eorAby (operand : Word)
  /-- `EOR` IZX, opcode `41` (R144, R106). -/
  | eorIzx (operand : Byte)
  /-- `EOR` IZY, opcode `51` (R144, R107). -/
  | eorIzy (operand : Byte)
  /-- `BIT` ZP, opcode `24` (R145, R99). -/
  | bitZp (operand : Byte)
  /-- `BIT` ABS, opcode `2C` (R145, R102). -/
  | bitAbs (operand : Word)
  /-- `CMP` IMM, opcode `C9` (R146, R98). -/
  | cmpImm (operand : Byte)
  /-- `CMP` ZP, opcode `C5` (R146, R99). -/
  | cmpZp (operand : Byte)
  /-- `CMP` ZPX, opcode `D5` (R146, R100). -/
  | cmpZpx (operand : Byte)
  /-- `CMP` ABS, opcode `CD` (R146, R102). -/
  | cmpAbs (operand : Word)
  /-- `CMP` ABX, opcode `DD` (R146, R103). -/
  | cmpAbx (operand : Word)
  /-- `CMP` ABY, opcode `D9` (R146, R104). -/
  | cmpAby (operand : Word)
  /-- `CMP` IZX, opcode `C1` (R146, R106). -/
  | cmpIzx (operand : Byte)
  /-- `CMP` IZY, opcode `D1` (R146, R107). -/
  | cmpIzy (operand : Byte)
  /-- `CPX` IMM, opcode `E0` (R147, R98). -/
  | cpxImm (operand : Byte)
  /-- `CPX` ZP, opcode `E4` (R147, R99). -/
  | cpxZp (operand : Byte)
  /-- `CPX` ABS, opcode `EC` (R147, R102). -/
  | cpxAbs (operand : Word)
  /-- `CPY` IMM, opcode `C0` (R148, R98). -/
  | cpyImm (operand : Byte)
  /-- `CPY` ZP, opcode `C4` (R148, R99). -/
  | cpyZp (operand : Byte)
  /-- `CPY` ABS, opcode `CC` (R148, R102). -/
  | cpyAbs (operand : Word)
  /-- `ASL` ACC, opcode `0A` (R161, R97). -/
  | aslAcc
  /-- `ASL` ZP, opcode `06` (R161, R99). -/
  | aslZp (operand : Byte)
  /-- `ASL` ZPX, opcode `16` (R161, R100). -/
  | aslZpx (operand : Byte)
  /-- `ASL` ABS, opcode `0E` (R161, R102). -/
  | aslAbs (operand : Word)
  /-- `ASL` ABX, opcode `1E` (R161, R103). -/
  | aslAbx (operand : Word)
  /-- `LSR` ACC, opcode `4A` (R162, R97). -/
  | lsrAcc
  /-- `LSR` ZP, opcode `46` (R162, R99). -/
  | lsrZp (operand : Byte)
  /-- `LSR` ZPX, opcode `56` (R162, R100). -/
  | lsrZpx (operand : Byte)
  /-- `LSR` ABS, opcode `4E` (R162, R102). -/
  | lsrAbs (operand : Word)
  /-- `LSR` ABX, opcode `5E` (R162, R103). -/
  | lsrAbx (operand : Word)
  /-- `ROL` ACC, opcode `2A` (R163, R97). -/
  | rolAcc
  /-- `ROL` ZP, opcode `26` (R163, R99). -/
  | rolZp (operand : Byte)
  /-- `ROL` ZPX, opcode `36` (R163, R100). -/
  | rolZpx (operand : Byte)
  /-- `ROL` ABS, opcode `2E` (R163, R102). -/
  | rolAbs (operand : Word)
  /-- `ROL` ABX, opcode `3E` (R163, R103). -/
  | rolAbx (operand : Word)
  /-- `ROR` ACC, opcode `6A` (R164, R97). -/
  | rorAcc
  /-- `ROR` ZP, opcode `66` (R164, R99). -/
  | rorZp (operand : Byte)
  /-- `ROR` ZPX, opcode `76` (R164, R100). -/
  | rorZpx (operand : Byte)
  /-- `ROR` ABS, opcode `6E` (R164, R102). -/
  | rorAbs (operand : Word)
  /-- `ROR` ABX, opcode `7E` (R164, R103). -/
  | rorAbx (operand : Word)
  /-- `INC` ZP, opcode `E6` (R165, R99). -/
  | incZp (operand : Byte)
  /-- `INC` ZPX, opcode `F6` (R165, R100). -/
  | incZpx (operand : Byte)
  /-- `INC` ABS, opcode `EE` (R165, R102). -/
  | incAbs (operand : Word)
  /-- `INC` ABX, opcode `FE` (R165, R103). -/
  | incAbx (operand : Word)
  /-- `DEC` ZP, opcode `C6` (R166, R99). -/
  | decZp (operand : Byte)
  /-- `DEC` ZPX, opcode `D6` (R166, R100). -/
  | decZpx (operand : Byte)
  /-- `DEC` ABS, opcode `CE` (R166, R102). -/
  | decAbs (operand : Word)
  /-- `DEC` ABX, opcode `DE` (R166, R103). -/
  | decAbx (operand : Word)
  /-- `INX` IMP, opcode `E8` (R167, R96). -/
  | inx
  /-- `INY` IMP, opcode `C8` (R168, R96). -/
  | iny
  /-- `DEX` IMP, opcode `CA` (R169, R96). -/
  | dex
  /-- `DEY` IMP, opcode `88` (R170, R96). -/
  | dey
  /-- `BCC` REL, opcode `90` (R181, R108). -/
  | bcc (displacement : Byte)
  /-- `BCS` REL, opcode `B0` (R182, R108). -/
  | bcs (displacement : Byte)
  /-- `BEQ` REL, opcode `F0` (R183, R108). -/
  | beq (displacement : Byte)
  /-- `BNE` REL, opcode `D0` (R184, R108). -/
  | bne (displacement : Byte)
  /-- `BMI` REL, opcode `30` (R185, R108). -/
  | bmi (displacement : Byte)
  /-- `BPL` REL, opcode `10` (R186, R108). -/
  | bpl (displacement : Byte)
  /-- `BVC` REL, opcode `50` (R187, R108). -/
  | bvc (displacement : Byte)
  /-- `BVS` REL, opcode `70` (R188, R108). -/
  | bvs (displacement : Byte)
  /-- `JMP` ABS, opcode `4C` (R189, R102). -/
  | jmpAbs (operand : Word)
  /-- `JMP` IND, opcode `6C` (R189, R105). -/
  | jmpInd (operand : Word)
  /-- `JSR` ABS, opcode `20` (R190, R102). -/
  | jsr (operand : Word)
  /-- `RTS` IMP, opcode `60` (R191, R96). -/
  | rts
  /-- `PHA` IMP, opcode `48` (R202, R96). -/
  | pha
  /-- `PLA` IMP, opcode `68` (R203, R96). -/
  | pla
  /-- `PHP` IMP, opcode `08` (R204, R96). -/
  | php
  /-- `PLP` IMP, opcode `28` (R205, R96). -/
  | plp
  /-- `CLC` IMP, opcode `18` (R206, R96). -/
  | clc
  /-- `SEC` IMP, opcode `38` (R207, R96). -/
  | sec
  /-- `CLI` IMP, opcode `58` (R208, R96). -/
  | cli
  /-- `SEI` IMP, opcode `78` (R209, R96). -/
  | sei
  /-- `CLD` IMP, opcode `D8` (R210, R96). -/
  | cld
  /-- `SED` IMP, opcode `F8` (R211, R96). -/
  | sed
  /-- `CLV` IMP, opcode `B8` (R212, R96). -/
  | clv
  /-- `NOP` IMP, opcode `EA` (R213, R96). -/
  | nop
  /-- `BRK` IMP, opcode `00` (R214, R96). -/
  | brk
  /-- `RTI` IMP, opcode `40` (R215, R96). -/
  | rti
  deriving DecidableEq, Repr

end Sys2Proof
end

