-- ==== Sys2Proof/Decode.lean ====
section
/-!
DEFINITION. The opcode dispatch table, the decoder and, after it, the encoder. The table (30_encoding.md R74 to R76)
is written row by row of the map's high nibble; the encoder is written constructor by constructor from the
by-mnemonic list of R76, so that their agreement says something.
-/
namespace Sys2Proof

open Sys2Proof.Machine

/-- How an opcode's operand bytes become an instruction: the formats of 30_encoding.md R71. -/
inductive Format where
  /-- F1: the opcode alone. -/
  | f1 (instr : Instr)
  /-- F2: one operand byte. -/
  | f2 (build : Byte → Instr)
  /-- F3: two operand bytes, low byte first, assembled to `hi:lo` (R72). -/
  | f3 (build : Word → Instr)

/-- One legal entry of the dispatch table: R75's triple, its index, and the instruction it selects. -/
structure OpcodeRow where
  opcode : Byte
  mnemonic : Mnemonic
  mode : Mode
  baseCycles : Nat
  format : Format

/-- Row `0x` of the map of 30_encoding.md R76. -/
def opcodeRow0 : List OpcodeRow := [
  ⟨0x00#8, .brk, .imp, 7, .f1 .brk⟩,
  ⟨0x01#8, .ora, .izx, 6, .f2 .oraIzx⟩,
  ⟨0x05#8, .ora, .zp, 3, .f2 .oraZp⟩,
  ⟨0x06#8, .asl, .zp, 5, .f2 .aslZp⟩,
  ⟨0x08#8, .php, .imp, 3, .f1 .php⟩,
  ⟨0x09#8, .ora, .imm, 2, .f2 .oraImm⟩,
  ⟨0x0A#8, .asl, .acc, 2, .f1 .aslAcc⟩,
  ⟨0x0D#8, .ora, .abs, 4, .f3 .oraAbs⟩,
  ⟨0x0E#8, .asl, .abs, 6, .f3 .aslAbs⟩]

/-- Row `1x` of the map of 30_encoding.md R76. -/
def opcodeRow1 : List OpcodeRow := [
  ⟨0x10#8, .bpl, .rel, 2, .f2 .bpl⟩,
  ⟨0x11#8, .ora, .izy, 5, .f2 .oraIzy⟩,
  ⟨0x15#8, .ora, .zpx, 4, .f2 .oraZpx⟩,
  ⟨0x16#8, .asl, .zpx, 6, .f2 .aslZpx⟩,
  ⟨0x18#8, .clc, .imp, 2, .f1 .clc⟩,
  ⟨0x19#8, .ora, .aby, 4, .f3 .oraAby⟩,
  ⟨0x1D#8, .ora, .abx, 4, .f3 .oraAbx⟩,
  ⟨0x1E#8, .asl, .abx, 7, .f3 .aslAbx⟩]

/-- Row `2x` of the map of 30_encoding.md R76. -/
def opcodeRow2 : List OpcodeRow := [
  ⟨0x20#8, .jsr, .abs, 6, .f3 .jsr⟩,
  ⟨0x21#8, .and, .izx, 6, .f2 .andIzx⟩,
  ⟨0x24#8, .bit, .zp, 3, .f2 .bitZp⟩,
  ⟨0x25#8, .and, .zp, 3, .f2 .andZp⟩,
  ⟨0x26#8, .rol, .zp, 5, .f2 .rolZp⟩,
  ⟨0x28#8, .plp, .imp, 4, .f1 .plp⟩,
  ⟨0x29#8, .and, .imm, 2, .f2 .andImm⟩,
  ⟨0x2A#8, .rol, .acc, 2, .f1 .rolAcc⟩,
  ⟨0x2C#8, .bit, .abs, 4, .f3 .bitAbs⟩,
  ⟨0x2D#8, .and, .abs, 4, .f3 .andAbs⟩,
  ⟨0x2E#8, .rol, .abs, 6, .f3 .rolAbs⟩]

/-- Row `3x` of the map of 30_encoding.md R76. -/
def opcodeRow3 : List OpcodeRow := [
  ⟨0x30#8, .bmi, .rel, 2, .f2 .bmi⟩,
  ⟨0x31#8, .and, .izy, 5, .f2 .andIzy⟩,
  ⟨0x35#8, .and, .zpx, 4, .f2 .andZpx⟩,
  ⟨0x36#8, .rol, .zpx, 6, .f2 .rolZpx⟩,
  ⟨0x38#8, .sec, .imp, 2, .f1 .sec⟩,
  ⟨0x39#8, .and, .aby, 4, .f3 .andAby⟩,
  ⟨0x3D#8, .and, .abx, 4, .f3 .andAbx⟩,
  ⟨0x3E#8, .rol, .abx, 7, .f3 .rolAbx⟩]

/-- Row `4x` of the map of 30_encoding.md R76. -/
def opcodeRow4 : List OpcodeRow := [
  ⟨0x40#8, .rti, .imp, 6, .f1 .rti⟩,
  ⟨0x41#8, .eor, .izx, 6, .f2 .eorIzx⟩,
  ⟨0x45#8, .eor, .zp, 3, .f2 .eorZp⟩,
  ⟨0x46#8, .lsr, .zp, 5, .f2 .lsrZp⟩,
  ⟨0x48#8, .pha, .imp, 3, .f1 .pha⟩,
  ⟨0x49#8, .eor, .imm, 2, .f2 .eorImm⟩,
  ⟨0x4A#8, .lsr, .acc, 2, .f1 .lsrAcc⟩,
  ⟨0x4C#8, .jmp, .abs, 3, .f3 .jmpAbs⟩,
  ⟨0x4D#8, .eor, .abs, 4, .f3 .eorAbs⟩,
  ⟨0x4E#8, .lsr, .abs, 6, .f3 .lsrAbs⟩]

/-- Row `5x` of the map of 30_encoding.md R76. -/
def opcodeRow5 : List OpcodeRow := [
  ⟨0x50#8, .bvc, .rel, 2, .f2 .bvc⟩,
  ⟨0x51#8, .eor, .izy, 5, .f2 .eorIzy⟩,
  ⟨0x55#8, .eor, .zpx, 4, .f2 .eorZpx⟩,
  ⟨0x56#8, .lsr, .zpx, 6, .f2 .lsrZpx⟩,
  ⟨0x58#8, .cli, .imp, 2, .f1 .cli⟩,
  ⟨0x59#8, .eor, .aby, 4, .f3 .eorAby⟩,
  ⟨0x5D#8, .eor, .abx, 4, .f3 .eorAbx⟩,
  ⟨0x5E#8, .lsr, .abx, 7, .f3 .lsrAbx⟩]

/-- Row `6x` of the map of 30_encoding.md R76. -/
def opcodeRow6 : List OpcodeRow := [
  ⟨0x60#8, .rts, .imp, 6, .f1 .rts⟩,
  ⟨0x61#8, .adc, .izx, 6, .f2 .adcIzx⟩,
  ⟨0x65#8, .adc, .zp, 3, .f2 .adcZp⟩,
  ⟨0x66#8, .ror, .zp, 5, .f2 .rorZp⟩,
  ⟨0x68#8, .pla, .imp, 4, .f1 .pla⟩,
  ⟨0x69#8, .adc, .imm, 2, .f2 .adcImm⟩,
  ⟨0x6A#8, .ror, .acc, 2, .f1 .rorAcc⟩,
  ⟨0x6C#8, .jmp, .ind, 5, .f3 .jmpInd⟩,
  ⟨0x6D#8, .adc, .abs, 4, .f3 .adcAbs⟩,
  ⟨0x6E#8, .ror, .abs, 6, .f3 .rorAbs⟩]

/-- Row `7x` of the map of 30_encoding.md R76. -/
def opcodeRow7 : List OpcodeRow := [
  ⟨0x70#8, .bvs, .rel, 2, .f2 .bvs⟩,
  ⟨0x71#8, .adc, .izy, 5, .f2 .adcIzy⟩,
  ⟨0x75#8, .adc, .zpx, 4, .f2 .adcZpx⟩,
  ⟨0x76#8, .ror, .zpx, 6, .f2 .rorZpx⟩,
  ⟨0x78#8, .sei, .imp, 2, .f1 .sei⟩,
  ⟨0x79#8, .adc, .aby, 4, .f3 .adcAby⟩,
  ⟨0x7D#8, .adc, .abx, 4, .f3 .adcAbx⟩,
  ⟨0x7E#8, .ror, .abx, 7, .f3 .rorAbx⟩]

/-- Row `8x` of the map of 30_encoding.md R76. -/
def opcodeRow8 : List OpcodeRow := [
  ⟨0x81#8, .sta, .izx, 6, .f2 .staIzx⟩,
  ⟨0x84#8, .sty, .zp, 3, .f2 .styZp⟩,
  ⟨0x85#8, .sta, .zp, 3, .f2 .staZp⟩,
  ⟨0x86#8, .stx, .zp, 3, .f2 .stxZp⟩,
  ⟨0x88#8, .dey, .imp, 2, .f1 .dey⟩,
  ⟨0x8A#8, .txa, .imp, 2, .f1 .txa⟩,
  ⟨0x8C#8, .sty, .abs, 4, .f3 .styAbs⟩,
  ⟨0x8D#8, .sta, .abs, 4, .f3 .staAbs⟩,
  ⟨0x8E#8, .stx, .abs, 4, .f3 .stxAbs⟩]

/-- Row `9x` of the map of 30_encoding.md R76. -/
def opcodeRow9 : List OpcodeRow := [
  ⟨0x90#8, .bcc, .rel, 2, .f2 .bcc⟩,
  ⟨0x91#8, .sta, .izy, 6, .f2 .staIzy⟩,
  ⟨0x94#8, .sty, .zpx, 4, .f2 .styZpx⟩,
  ⟨0x95#8, .sta, .zpx, 4, .f2 .staZpx⟩,
  ⟨0x96#8, .stx, .zpy, 4, .f2 .stxZpy⟩,
  ⟨0x98#8, .tya, .imp, 2, .f1 .tya⟩,
  ⟨0x99#8, .sta, .aby, 5, .f3 .staAby⟩,
  ⟨0x9A#8, .txs, .imp, 2, .f1 .txs⟩,
  ⟨0x9D#8, .sta, .abx, 5, .f3 .staAbx⟩]

/-- Row `Ax` of the map of 30_encoding.md R76. -/
def opcodeRowA : List OpcodeRow := [
  ⟨0xA0#8, .ldy, .imm, 2, .f2 .ldyImm⟩,
  ⟨0xA1#8, .lda, .izx, 6, .f2 .ldaIzx⟩,
  ⟨0xA2#8, .ldx, .imm, 2, .f2 .ldxImm⟩,
  ⟨0xA4#8, .ldy, .zp, 3, .f2 .ldyZp⟩,
  ⟨0xA5#8, .lda, .zp, 3, .f2 .ldaZp⟩,
  ⟨0xA6#8, .ldx, .zp, 3, .f2 .ldxZp⟩,
  ⟨0xA8#8, .tay, .imp, 2, .f1 .tay⟩,
  ⟨0xA9#8, .lda, .imm, 2, .f2 .ldaImm⟩,
  ⟨0xAA#8, .tax, .imp, 2, .f1 .tax⟩,
  ⟨0xAC#8, .ldy, .abs, 4, .f3 .ldyAbs⟩,
  ⟨0xAD#8, .lda, .abs, 4, .f3 .ldaAbs⟩,
  ⟨0xAE#8, .ldx, .abs, 4, .f3 .ldxAbs⟩]

/-- Row `Bx` of the map of 30_encoding.md R76. -/
def opcodeRowB : List OpcodeRow := [
  ⟨0xB0#8, .bcs, .rel, 2, .f2 .bcs⟩,
  ⟨0xB1#8, .lda, .izy, 5, .f2 .ldaIzy⟩,
  ⟨0xB4#8, .ldy, .zpx, 4, .f2 .ldyZpx⟩,
  ⟨0xB5#8, .lda, .zpx, 4, .f2 .ldaZpx⟩,
  ⟨0xB6#8, .ldx, .zpy, 4, .f2 .ldxZpy⟩,
  ⟨0xB8#8, .clv, .imp, 2, .f1 .clv⟩,
  ⟨0xB9#8, .lda, .aby, 4, .f3 .ldaAby⟩,
  ⟨0xBA#8, .tsx, .imp, 2, .f1 .tsx⟩,
  ⟨0xBC#8, .ldy, .abx, 4, .f3 .ldyAbx⟩,
  ⟨0xBD#8, .lda, .abx, 4, .f3 .ldaAbx⟩,
  ⟨0xBE#8, .ldx, .aby, 4, .f3 .ldxAby⟩]

/-- Row `Cx` of the map of 30_encoding.md R76. -/
def opcodeRowC : List OpcodeRow := [
  ⟨0xC0#8, .cpy, .imm, 2, .f2 .cpyImm⟩,
  ⟨0xC1#8, .cmp, .izx, 6, .f2 .cmpIzx⟩,
  ⟨0xC4#8, .cpy, .zp, 3, .f2 .cpyZp⟩,
  ⟨0xC5#8, .cmp, .zp, 3, .f2 .cmpZp⟩,
  ⟨0xC6#8, .dec, .zp, 5, .f2 .decZp⟩,
  ⟨0xC8#8, .iny, .imp, 2, .f1 .iny⟩,
  ⟨0xC9#8, .cmp, .imm, 2, .f2 .cmpImm⟩,
  ⟨0xCA#8, .dex, .imp, 2, .f1 .dex⟩,
  ⟨0xCC#8, .cpy, .abs, 4, .f3 .cpyAbs⟩,
  ⟨0xCD#8, .cmp, .abs, 4, .f3 .cmpAbs⟩,
  ⟨0xCE#8, .dec, .abs, 6, .f3 .decAbs⟩]

/-- Row `Dx` of the map of 30_encoding.md R76. -/
def opcodeRowD : List OpcodeRow := [
  ⟨0xD0#8, .bne, .rel, 2, .f2 .bne⟩,
  ⟨0xD1#8, .cmp, .izy, 5, .f2 .cmpIzy⟩,
  ⟨0xD5#8, .cmp, .zpx, 4, .f2 .cmpZpx⟩,
  ⟨0xD6#8, .dec, .zpx, 6, .f2 .decZpx⟩,
  ⟨0xD8#8, .cld, .imp, 2, .f1 .cld⟩,
  ⟨0xD9#8, .cmp, .aby, 4, .f3 .cmpAby⟩,
  ⟨0xDD#8, .cmp, .abx, 4, .f3 .cmpAbx⟩,
  ⟨0xDE#8, .dec, .abx, 7, .f3 .decAbx⟩]

/-- Row `Ex` of the map of 30_encoding.md R76. -/
def opcodeRowE : List OpcodeRow := [
  ⟨0xE0#8, .cpx, .imm, 2, .f2 .cpxImm⟩,
  ⟨0xE1#8, .sbc, .izx, 6, .f2 .sbcIzx⟩,
  ⟨0xE4#8, .cpx, .zp, 3, .f2 .cpxZp⟩,
  ⟨0xE5#8, .sbc, .zp, 3, .f2 .sbcZp⟩,
  ⟨0xE6#8, .inc, .zp, 5, .f2 .incZp⟩,
  ⟨0xE8#8, .inx, .imp, 2, .f1 .inx⟩,
  ⟨0xE9#8, .sbc, .imm, 2, .f2 .sbcImm⟩,
  ⟨0xEA#8, .nop, .imp, 2, .f1 .nop⟩,
  ⟨0xEC#8, .cpx, .abs, 4, .f3 .cpxAbs⟩,
  ⟨0xED#8, .sbc, .abs, 4, .f3 .sbcAbs⟩,
  ⟨0xEE#8, .inc, .abs, 6, .f3 .incAbs⟩]

/-- Row `Fx` of the map of 30_encoding.md R76. -/
def opcodeRowF : List OpcodeRow := [
  ⟨0xF0#8, .beq, .rel, 2, .f2 .beq⟩,
  ⟨0xF1#8, .sbc, .izy, 5, .f2 .sbcIzy⟩,
  ⟨0xF5#8, .sbc, .zpx, 4, .f2 .sbcZpx⟩,
  ⟨0xF6#8, .inc, .zpx, 6, .f2 .incZpx⟩,
  ⟨0xF8#8, .sed, .imp, 2, .f1 .sed⟩,
  ⟨0xF9#8, .sbc, .aby, 4, .f3 .sbcAby⟩,
  ⟨0xFD#8, .sbc, .abx, 4, .f3 .sbcAbx⟩,
  ⟨0xFE#8, .inc, .abx, 7, .f3 .incAbx⟩]

/-- The dispatch table: its 151 legal entries (30_encoding.md R76). -/
def opcodeTable : List OpcodeRow :=
  opcodeRow0 ++ opcodeRow1 ++ opcodeRow2 ++ opcodeRow3 ++ opcodeRow4 ++ opcodeRow5 ++ opcodeRow6 ++ opcodeRow7 ++
  opcodeRow8 ++ opcodeRow9 ++ opcodeRowA ++ opcodeRowB ++ opcodeRowC ++ opcodeRowD ++ opcodeRowE ++ opcodeRowF

/-- The forms of one mnemonic, opcode and mode, in the order of the table. -/
def formsOf (m : Mnemonic) : List (Byte × Mode) :=
  (opcodeTable.filter (fun row => row.mnemonic = m)).map (fun row => (row.opcode, row.mode))

/-- The entry at an opcode byte, or none for an illegal byte (30_encoding.md R74, R77). -/
def findRow (opcode : Byte) : List OpcodeRow → Option OpcodeRow
  | [] => none
  | row :: rest => if row.opcode = opcode then some row else findRow opcode rest

/-- `OpcodeTable[opcode]` (40_step_and_addressing.md R92). -/
def lookupOpcode (opcode : Byte) : Option OpcodeRow := findRow opcode opcodeTable

/-- Why a list of bytes is no instruction. -/
inductive DecodeError where
  /-- No byte to decode. -/
  | empty
  /-- The first byte has no entry in the table (30_encoding.md R77). -/
  | illegalOpcode (opcode : Byte)
  /-- The opcode is legal but its operand bytes are missing. -/
  | truncated (opcode : Byte)
  deriving DecidableEq, Repr

/-- The instruction at the head of a list of bytes, and the bytes after it (30_encoding.md R70 to R74). -/
def decode (bytes : List Byte) : Except DecodeError (Instr × List Byte) :=
  match bytes with
  | [] => .error .empty
  | opcode :: rest =>
    match lookupOpcode opcode with
    | none => .error (.illegalOpcode opcode)
    | some row =>
      match row.format, rest with
      | .f1 instr, _ => .ok (instr, rest)
      | .f2 build, operand :: rest' => .ok (build operand, rest')
      | .f3 build, lo :: hi :: rest' => .ok (build (joinBytes hi lo), rest')
      | _, _ => .error (.truncated opcode)

/-- The first three bytes of an instruction whose table bits are `w`: byte 0 is bits 7..0, byte 1 bits 15..8, byte 2
bits 23..16, and every bit from `nbits` on is 0 (30_encoding.md R71: the longest instruction has three bytes). -/
def tableBytes (nbits w : Nat) : List Byte :=
  let bits := w % 2 ^ nbits
  [BitVec.ofNat 8 bits, BitVec.ofNat 8 (bits / 256), BitVec.ofNat 8 (bits / 65536)]

/-- The instruction the decoder reads from an instruction whose bits are `w`, numbered as spec/opcode_table.json
numbers them. -/
def decodeTableWord (nbits w : Nat) : Option Instr :=
  match decode (tableBytes nbits w) with
  | .ok (instr, _) => some instr
  | .error _ => none

/-- An instruction's operand, by format (30_encoding.md R71). -/
inductive Operand where
  | none
  | byte (value : Byte)
  | word (value : Word)
  deriving DecidableEq, Repr

/-- The operand bytes in memory order, low byte first (30_encoding.md R71, R72). -/
def Operand.bytes : Operand → List Byte
  | .none => []
  | .byte value => [value]
  | .word value => [lowByte value, highByte value]

/-- The operand of a two-byte format as a byte. -/
def Operand.asByte : Operand → Byte
  | .none => 0#8
  | .byte value => value
  | .word value => lowByte value

/-- The operand of a three-byte format as a 16-bit value. -/
def Operand.asWord : Operand → Word
  | .none => 0#16
  | .byte value => zext16 value
  | .word value => value

/-- Operand bytes of each mode (30_encoding.md R73). -/
def Mode.operandBytes : Mode → Nat
  | .imp | .acc => 0
  | .imm | .zp | .zpx | .zpy | .izx | .izy | .rel => 1
  | .abs | .abx | .aby | .ind => 2

/-- The mnemonic of an instruction. -/
def Instr.mnemonic : Instr → Mnemonic
  | .ldaImm _ | .ldaZp _ | .ldaZpx _ | .ldaAbs _ | .ldaAbx _ | .ldaAby _ | .ldaIzx _ | .ldaIzy _ => .lda
  | .ldxImm _ | .ldxZp _ | .ldxZpy _ | .ldxAbs _ | .ldxAby _ => .ldx
  | .ldyImm _ | .ldyZp _ | .ldyZpx _ | .ldyAbs _ | .ldyAbx _ => .ldy
  | .staZp _ | .staZpx _ | .staAbs _ | .staAbx _ | .staAby _ | .staIzx _ | .staIzy _ => .sta
  | .stxZp _ | .stxZpy _ | .stxAbs _ => .stx
  | .styZp _ | .styZpx _ | .styAbs _ => .sty
  | .tax => .tax
  | .tay => .tay
  | .tsx => .tsx
  | .txa => .txa
  | .txs => .txs
  | .tya => .tya
  | .adcImm _ | .adcZp _ | .adcZpx _ | .adcAbs _ | .adcAbx _ | .adcAby _ | .adcIzx _ | .adcIzy _ => .adc
  | .sbcImm _ | .sbcZp _ | .sbcZpx _ | .sbcAbs _ | .sbcAbx _ | .sbcAby _ | .sbcIzx _ | .sbcIzy _ => .sbc
  | .andImm _ | .andZp _ | .andZpx _ | .andAbs _ | .andAbx _ | .andAby _ | .andIzx _ | .andIzy _ => .and
  | .oraImm _ | .oraZp _ | .oraZpx _ | .oraAbs _ | .oraAbx _ | .oraAby _ | .oraIzx _ | .oraIzy _ => .ora
  | .eorImm _ | .eorZp _ | .eorZpx _ | .eorAbs _ | .eorAbx _ | .eorAby _ | .eorIzx _ | .eorIzy _ => .eor
  | .bitZp _ | .bitAbs _ => .bit
  | .cmpImm _ | .cmpZp _ | .cmpZpx _ | .cmpAbs _ | .cmpAbx _ | .cmpAby _ | .cmpIzx _ | .cmpIzy _ => .cmp
  | .cpxImm _ | .cpxZp _ | .cpxAbs _ => .cpx
  | .cpyImm _ | .cpyZp _ | .cpyAbs _ => .cpy
  | .aslAcc | .aslZp _ | .aslZpx _ | .aslAbs _ | .aslAbx _ => .asl
  | .lsrAcc | .lsrZp _ | .lsrZpx _ | .lsrAbs _ | .lsrAbx _ => .lsr
  | .rolAcc | .rolZp _ | .rolZpx _ | .rolAbs _ | .rolAbx _ => .rol
  | .rorAcc | .rorZp _ | .rorZpx _ | .rorAbs _ | .rorAbx _ => .ror
  | .incZp _ | .incZpx _ | .incAbs _ | .incAbx _ => .inc
  | .decZp _ | .decZpx _ | .decAbs _ | .decAbx _ => .dec
  | .inx => .inx
  | .iny => .iny
  | .dex => .dex
  | .dey => .dey
  | .bcc _ => .bcc
  | .bcs _ => .bcs
  | .beq _ => .beq
  | .bne _ => .bne
  | .bmi _ => .bmi
  | .bpl _ => .bpl
  | .bvc _ => .bvc
  | .bvs _ => .bvs
  | .jmpAbs _ | .jmpInd _ => .jmp
  | .jsr _ => .jsr
  | .rts => .rts
  | .pha => .pha
  | .pla => .pla
  | .php => .php
  | .plp => .plp
  | .clc => .clc
  | .sec => .sec
  | .cli => .cli
  | .sei => .sei
  | .cld => .cld
  | .sed => .sed
  | .clv => .clv
  | .nop => .nop
  | .brk => .brk
  | .rti => .rti

/-- The addressing mode of an instruction. -/
def Instr.mode : Instr → Mode
  | .ldaImm _ | .ldxImm _ | .ldyImm _ | .adcImm _ | .sbcImm _ | .andImm _ | .oraImm _ | .eorImm _ | .cmpImm _
  | .cpxImm _ | .cpyImm _ => .imm
  | .ldaZp _ | .ldxZp _ | .ldyZp _ | .staZp _ | .stxZp _ | .styZp _ | .adcZp _ | .sbcZp _ | .andZp _
  | .oraZp _ | .eorZp _ | .bitZp _ | .cmpZp _ | .cpxZp _ | .cpyZp _ | .aslZp _ | .lsrZp _ | .rolZp _
  | .rorZp _ | .incZp _ | .decZp _ => .zp
  | .ldaZpx _ | .ldyZpx _ | .staZpx _ | .styZpx _ | .adcZpx _ | .sbcZpx _ | .andZpx _ | .oraZpx _ | .eorZpx _
  | .cmpZpx _ | .aslZpx _ | .lsrZpx _ | .rolZpx _ | .rorZpx _ | .incZpx _ | .decZpx _ => .zpx
  | .ldaAbs _ | .ldxAbs _ | .ldyAbs _ | .staAbs _ | .stxAbs _ | .styAbs _ | .adcAbs _ | .sbcAbs _ | .andAbs _
  | .oraAbs _ | .eorAbs _ | .bitAbs _ | .cmpAbs _ | .cpxAbs _ | .cpyAbs _ | .aslAbs _ | .lsrAbs _ | .rolAbs _
  | .rorAbs _ | .incAbs _ | .decAbs _ | .jmpAbs _ | .jsr _ => .abs
  | .ldaAbx _ | .ldyAbx _ | .staAbx _ | .adcAbx _ | .sbcAbx _ | .andAbx _ | .oraAbx _ | .eorAbx _ | .cmpAbx _
  | .aslAbx _ | .lsrAbx _ | .rolAbx _ | .rorAbx _ | .incAbx _ | .decAbx _ => .abx
  | .ldaAby _ | .ldxAby _ | .staAby _ | .adcAby _ | .sbcAby _ | .andAby _ | .oraAby _ | .eorAby _ | .cmpAby _ => .aby
  | .ldaIzx _ | .staIzx _ | .adcIzx _ | .sbcIzx _ | .andIzx _ | .oraIzx _ | .eorIzx _ | .cmpIzx _ => .izx
  | .ldaIzy _ | .staIzy _ | .adcIzy _ | .sbcIzy _ | .andIzy _ | .oraIzy _ | .eorIzy _ | .cmpIzy _ => .izy
  | .ldxZpy _ | .stxZpy _ => .zpy
  | .tax | .tay | .tsx | .txa | .txs | .tya | .inx | .iny | .dex | .dey | .rts | .pha | .pla | .php | .plp
  | .clc | .sec | .cli | .sei | .cld | .sed | .clv | .nop | .brk | .rti => .imp
  | .aslAcc | .lsrAcc | .rolAcc | .rorAcc => .acc
  | .bcc _ | .bcs _ | .beq _ | .bne _ | .bmi _ | .bpl _ | .bvc _ | .bvs _ => .rel
  | .jmpInd _ => .ind

/-- The operand of an instruction. -/
def Instr.operand : Instr → Operand
  | .tax | .tay | .tsx | .txa | .txs | .tya | .aslAcc | .lsrAcc | .rolAcc | .rorAcc | .inx | .iny | .dex
  | .dey | .rts | .pha | .pla | .php | .plp | .clc | .sec | .cli | .sei | .cld | .sed | .clv | .nop | .brk
  | .rti => .none
  | .ldaImm operand | .ldaZp operand | .ldaZpx operand | .ldaIzx operand | .ldaIzy operand | .ldxImm operand
  | .ldxZp operand | .ldxZpy operand | .ldyImm operand | .ldyZp operand | .ldyZpx operand | .staZp operand
  | .staZpx operand | .staIzx operand | .staIzy operand | .stxZp operand | .stxZpy operand | .styZp operand
  | .styZpx operand | .adcImm operand | .adcZp operand | .adcZpx operand | .adcIzx operand | .adcIzy operand
  | .sbcImm operand | .sbcZp operand | .sbcZpx operand | .sbcIzx operand | .sbcIzy operand | .andImm operand
  | .andZp operand | .andZpx operand | .andIzx operand | .andIzy operand | .oraImm operand | .oraZp operand
  | .oraZpx operand | .oraIzx operand | .oraIzy operand | .eorImm operand | .eorZp operand | .eorZpx operand
  | .eorIzx operand | .eorIzy operand | .bitZp operand | .cmpImm operand | .cmpZp operand | .cmpZpx operand
  | .cmpIzx operand | .cmpIzy operand | .cpxImm operand | .cpxZp operand | .cpyImm operand | .cpyZp operand
  | .aslZp operand | .aslZpx operand | .lsrZp operand | .lsrZpx operand | .rolZp operand | .rolZpx operand
  | .rorZp operand | .rorZpx operand | .incZp operand | .incZpx operand | .decZp operand | .decZpx operand
  | .bcc operand | .bcs operand | .beq operand | .bne operand | .bmi operand | .bpl operand | .bvc operand
  | .bvs operand => .byte operand
  | .ldaAbs operand | .ldaAbx operand | .ldaAby operand | .ldxAbs operand | .ldxAby operand | .ldyAbs operand
  | .ldyAbx operand | .staAbs operand | .staAbx operand | .staAby operand | .stxAbs operand | .styAbs operand
  | .adcAbs operand | .adcAbx operand | .adcAby operand | .sbcAbs operand | .sbcAbx operand | .sbcAby operand
  | .andAbs operand | .andAbx operand | .andAby operand | .oraAbs operand | .oraAbx operand | .oraAby operand
  | .eorAbs operand | .eorAbx operand | .eorAby operand | .bitAbs operand | .cmpAbs operand | .cmpAbx operand
  | .cmpAby operand | .cpxAbs operand | .cpyAbs operand | .aslAbs operand | .aslAbx operand | .lsrAbs operand
  | .lsrAbx operand | .rolAbs operand | .rolAbx operand | .rorAbs operand | .rorAbx operand | .incAbs operand
  | .incAbx operand | .decAbs operand | .decAbx operand | .jmpAbs operand | .jmpInd operand | .jsr operand => .word operand

/-- The opcode byte of an instruction: the by-mnemonic list of 30_encoding.md R76. -/
def Instr.opcode : Instr → Byte
  | .ldaImm _ => 0xA9#8
  | .ldaZp _ => 0xA5#8
  | .ldaZpx _ => 0xB5#8
  | .ldaAbs _ => 0xAD#8
  | .ldaAbx _ => 0xBD#8
  | .ldaAby _ => 0xB9#8
  | .ldaIzx _ => 0xA1#8
  | .ldaIzy _ => 0xB1#8
  | .ldxImm _ => 0xA2#8
  | .ldxZp _ => 0xA6#8
  | .ldxZpy _ => 0xB6#8
  | .ldxAbs _ => 0xAE#8
  | .ldxAby _ => 0xBE#8
  | .ldyImm _ => 0xA0#8
  | .ldyZp _ => 0xA4#8
  | .ldyZpx _ => 0xB4#8
  | .ldyAbs _ => 0xAC#8
  | .ldyAbx _ => 0xBC#8
  | .staZp _ => 0x85#8
  | .staZpx _ => 0x95#8
  | .staAbs _ => 0x8D#8
  | .staAbx _ => 0x9D#8
  | .staAby _ => 0x99#8
  | .staIzx _ => 0x81#8
  | .staIzy _ => 0x91#8
  | .stxZp _ => 0x86#8
  | .stxZpy _ => 0x96#8
  | .stxAbs _ => 0x8E#8
  | .styZp _ => 0x84#8
  | .styZpx _ => 0x94#8
  | .styAbs _ => 0x8C#8
  | .tax => 0xAA#8
  | .tay => 0xA8#8
  | .tsx => 0xBA#8
  | .txa => 0x8A#8
  | .txs => 0x9A#8
  | .tya => 0x98#8
  | .adcImm _ => 0x69#8
  | .adcZp _ => 0x65#8
  | .adcZpx _ => 0x75#8
  | .adcAbs _ => 0x6D#8
  | .adcAbx _ => 0x7D#8
  | .adcAby _ => 0x79#8
  | .adcIzx _ => 0x61#8
  | .adcIzy _ => 0x71#8
  | .sbcImm _ => 0xE9#8
  | .sbcZp _ => 0xE5#8
  | .sbcZpx _ => 0xF5#8
  | .sbcAbs _ => 0xED#8
  | .sbcAbx _ => 0xFD#8
  | .sbcAby _ => 0xF9#8
  | .sbcIzx _ => 0xE1#8
  | .sbcIzy _ => 0xF1#8
  | .andImm _ => 0x29#8
  | .andZp _ => 0x25#8
  | .andZpx _ => 0x35#8
  | .andAbs _ => 0x2D#8
  | .andAbx _ => 0x3D#8
  | .andAby _ => 0x39#8
  | .andIzx _ => 0x21#8
  | .andIzy _ => 0x31#8
  | .oraImm _ => 0x09#8
  | .oraZp _ => 0x05#8
  | .oraZpx _ => 0x15#8
  | .oraAbs _ => 0x0D#8
  | .oraAbx _ => 0x1D#8
  | .oraAby _ => 0x19#8
  | .oraIzx _ => 0x01#8
  | .oraIzy _ => 0x11#8
  | .eorImm _ => 0x49#8
  | .eorZp _ => 0x45#8
  | .eorZpx _ => 0x55#8
  | .eorAbs _ => 0x4D#8
  | .eorAbx _ => 0x5D#8
  | .eorAby _ => 0x59#8
  | .eorIzx _ => 0x41#8
  | .eorIzy _ => 0x51#8
  | .bitZp _ => 0x24#8
  | .bitAbs _ => 0x2C#8
  | .cmpImm _ => 0xC9#8
  | .cmpZp _ => 0xC5#8
  | .cmpZpx _ => 0xD5#8
  | .cmpAbs _ => 0xCD#8
  | .cmpAbx _ => 0xDD#8
  | .cmpAby _ => 0xD9#8
  | .cmpIzx _ => 0xC1#8
  | .cmpIzy _ => 0xD1#8
  | .cpxImm _ => 0xE0#8
  | .cpxZp _ => 0xE4#8
  | .cpxAbs _ => 0xEC#8
  | .cpyImm _ => 0xC0#8
  | .cpyZp _ => 0xC4#8
  | .cpyAbs _ => 0xCC#8
  | .aslAcc => 0x0A#8
  | .aslZp _ => 0x06#8
  | .aslZpx _ => 0x16#8
  | .aslAbs _ => 0x0E#8
  | .aslAbx _ => 0x1E#8
  | .lsrAcc => 0x4A#8
  | .lsrZp _ => 0x46#8
  | .lsrZpx _ => 0x56#8
  | .lsrAbs _ => 0x4E#8
  | .lsrAbx _ => 0x5E#8
  | .rolAcc => 0x2A#8
  | .rolZp _ => 0x26#8
  | .rolZpx _ => 0x36#8
  | .rolAbs _ => 0x2E#8
  | .rolAbx _ => 0x3E#8
  | .rorAcc => 0x6A#8
  | .rorZp _ => 0x66#8
  | .rorZpx _ => 0x76#8
  | .rorAbs _ => 0x6E#8
  | .rorAbx _ => 0x7E#8
  | .incZp _ => 0xE6#8
  | .incZpx _ => 0xF6#8
  | .incAbs _ => 0xEE#8
  | .incAbx _ => 0xFE#8
  | .decZp _ => 0xC6#8
  | .decZpx _ => 0xD6#8
  | .decAbs _ => 0xCE#8
  | .decAbx _ => 0xDE#8
  | .inx => 0xE8#8
  | .iny => 0xC8#8
  | .dex => 0xCA#8
  | .dey => 0x88#8
  | .bcc _ => 0x90#8
  | .bcs _ => 0xB0#8
  | .beq _ => 0xF0#8
  | .bne _ => 0xD0#8
  | .bmi _ => 0x30#8
  | .bpl _ => 0x10#8
  | .bvc _ => 0x50#8
  | .bvs _ => 0x70#8
  | .jmpAbs _ => 0x4C#8
  | .jmpInd _ => 0x6C#8
  | .jsr _ => 0x20#8
  | .rts => 0x60#8
  | .pha => 0x48#8
  | .pla => 0x68#8
  | .php => 0x08#8
  | .plp => 0x28#8
  | .clc => 0x18#8
  | .sec => 0x38#8
  | .cli => 0x58#8
  | .sei => 0x78#8
  | .cld => 0xD8#8
  | .sed => 0xF8#8
  | .clv => 0xB8#8
  | .nop => 0xEA#8
  | .brk => 0x00#8
  | .rti => 0x40#8

/-- The bytes of an instruction, opcode first (30_encoding.md R71). -/
def encode (i : Instr) : List Byte := i.opcode :: i.operand.bytes

end Sys2Proof
end

