-- ==== Sys2Proof/Machine/State.lean ====
section
/-!
DEFINITION. The state of the machine as plain data (10_state.md R10 to R34), the reasons a step can stop, and the
state after reset (10_state.md R35, 70_reset_and_hazards.md R260).
-/
namespace Sys2Proof.Machine

/-- Bytes of memory by physical cell: cells below `0x0800` are the RAM (20_memory.md R44), cells from `0x2000` are
FlatBus's plain RAM (R47). In canonical form the cells rise strictly and no listed byte is the one an unlisted cell
reads as. -/
abbrev Memory := List Host.Cell

/-- The machine's state. Every field but the last two is the spec's; `draws` and `busLog` are the model's own. -/
structure State where
  /-- The accumulator (10_state.md R10). -/
  a : Byte
  /-- Index register (R10). -/
  x : Byte
  /-- Index register (R10). -/
  y : Byte
  /-- Stack pointer into page one (R11). -/
  sp : Byte
  /-- Program counter (R12): between steps, the address of the next opcode. -/
  pc : Word
  /-- Negative, status bit 7 (R14, R24). -/
  flagN : Bool
  /-- Overflow, status bit 6 (R14, R23). -/
  flagV : Bool
  /-- Break, status bit 4, a stored flag of this core (R14, R19, R27). -/
  flagB : Bool
  /-- Decimal, status bit 3; storage only (R14, R18). -/
  flagD : Bool
  /-- Interrupt-disable, status bit 2; masks nothing (R14, R17). -/
  flagI : Bool
  /-- Zero, status bit 1 (R14, R16). -/
  flagZ : Bool
  /-- Carry, status bit 0 (R14, R15). -/
  flagC : Bool
  /-- `data_latch` (R28). -/
  dataLatch : Byte
  /-- `effective_address` (R29). -/
  effectiveAddress : Word
  /-- `temp`, scratch (R30): unspecified between steps, so each step leaves a free value in it. -/
  temp : Word
  /-- Running cycle counter, unbounded (R31). -/
  cycles : Nat
  /-- The bytes held by the bus: RAM, and FlatBus's RAM where installed (20_memory.md R44, R47). -/
  mem : Memory
  /-- What is attached at `0x2000..0xFFFF` (R46); no step changes it. -/
  high : HighRegion
  /-- MODEL'S OWN: how many free values have been drawn (log 7). -/
  draws : Nat
  /-- MODEL'S OWN: the bus transactions issued so far, newest first (R53, R112; log 8). -/
  busLog : List BusTxn
  deriving DecidableEq, Repr

/-- Why the machine stops. -/
inductive Fault where
  /-- `IllegalOpcode(opcode, addr)`: raised by step at Decode when the fetched byte has no table entry
  (60_exceptions.md R230). The spec's own and only fault; safe. -/
  | illegalOpcode (opcode : Byte) (addr : Word)
  deriving DecidableEq, Repr

/-- Why the model gives no meaning. -/
inductive Refusal where
  /-- An instruction without a meaning yet: raised only by an arm of exec, by the mnemonic; safe. No arm raises it. -/
  | notModelled (mnemonic : String)
  deriving DecidableEq, Repr

/-- The machine right after `Reset(RESET_VECTOR)` at power-on (10_state.md R35, 70_reset_and_hazards.md R260, R262).
The spec gives every value but these, each a DESIGN CHOICE, unsafe for a claim about this one state: `pc` (the
vector, log 1), `dataLatch`, `effectiveAddress` and `temp` (log 2), empty memory reading as zero (log 3), the open bus
(log 4), `draws` (log 7), `busLog` (log 8). -/
def State.reset : State where
  a := 0x00#8
  x := 0x00#8
  y := 0x00#8
  sp := 0xFD#8
  pc := Config.resetVector
  flagN := false
  flagV := false
  flagB := false
  flagD := false
  flagI := true
  flagZ := false
  flagC := false
  dataLatch := 0x00#8
  effectiveAddress := 0x0000#16
  temp := 0x0000#16
  cycles := 0
  mem := []
  high := .openBus
  draws := 0
  busLog := []

end Sys2Proof.Machine
end

