-- ==== Sys2Proof/Machine/Flags.lean ====
section
/-!
DEFINITION. Every flag computation of the spec: the shared zero and negative rule, the status byte, the adder of `ADC`
and `SBC`, the nine-bit subtraction of the compares.
-/
namespace Sys2Proof.Machine

/-- `SetZN(v)`: "Z = 1 iff the result's low 8 bits are zero; N = bit 7 of the result" (10_state.md R22). -/
def setZN (v : Byte) (s : State) : State :=
  { s with flagZ := v == 0x00#8, flagN := bitOf v 7 }

/-- A flag at its place in the status byte. -/
def flagAt (flag : Bool) (k : Nat) : Byte := if flag then 1#8 <<< k else 0#8

/-- `PackP()`: `N : V : 1 : B : D : I : Z : C`, bit 7 down to bit 0 (10_state.md R20, R21). -/
def packP (s : State) : Byte :=
  flagAt s.flagN 7 ||| flagAt s.flagV 6 ||| flagAt true 5 ||| flagAt s.flagB 4
    ||| flagAt s.flagD 3 ||| flagAt s.flagI 2 ||| flagAt s.flagZ 1 ||| flagAt s.flagC 0

/-- `UnpackP(v)`: six flags from bits 7 6 3 2 1 0, `B` cleared, bits 5 and 4 ignored (10_state.md R26). -/
def unpackP (v : Byte) (s : State) : State :=
  { s with
    flagN := bitOf v 7, flagV := bitOf v 6, flagD := bitOf v 3, flagI := bitOf v 2,
    flagZ := bitOf v 1, flagC := bitOf v 0, flagB := false }

/-- A carry as a nine-bit number. -/
def carry9 (c : Bool) : BitVec 9 := if c then 1#9 else 0#9

/-- The nine-bit sum `a + m + C` (42_alu_logic_compare.md R140). -/
def sum9 (a m : Byte) (c : Bool) : BitVec 9 := zext9 a + zext9 m + carry9 c

/-- The low eight bits of a nine-bit value, `v[7:0]`. -/
def low8 (v : BitVec 9) : Byte := v.extractLsb' 0 8

/-- `V` of an addition: "the sign of both operands matches and differs from the sign of the result"
(10_state.md R23, 42_alu_logic_compare.md R150). -/
def overflow (a m r : Byte) : Bool := bitOf a 7 == bitOf m 7 && bitOf r 7 != bitOf a 7

/-- The adder of `ADC` and, on the complemented operand, of `SBC`: writes `a`, `C`, `V`, `Z`, `N`
(42_alu_logic_compare.md R140). `D` is not read (R151). -/
def addToA (m : Byte) (s : State) : State :=
  let sum := sum9 s.a m s.flagC
  let r := low8 sum
  setZN r { s with flagV := overflow s.a m r, flagC := sum.getLsbD 8, a := r }

/-- The nine-bit difference `(reg - data) mod 512` (42_alu_logic_compare.md R146). -/
def diff9 (reg data : Byte) : BitVec 9 := zext9 reg - zext9 data

/-- A compare: `C` is "no borrow", `Z` and `N` come from the eight-bit difference, no register is written
(42_alu_logic_compare.md R146 to R148). -/
def compareWith (reg data : Byte) (s : State) : State :=
  setZN (low8 (diff9 reg data)) { s with flagC := decide (data.toNat ≤ reg.toNat) }

end Sys2Proof.Machine
end

