-- ==== Sys2Proof/Machine/Memory.lean ====
section
/-!
DEFINITION. Reading and writing one byte of the memory list, and its canonical form.
-/
namespace Sys2Proof.Machine

/-- The byte of a physical cell: the listed one, or what an unlisted cell reads as. -/
def Memory.read (m : Memory) (cell : Nat) : Byte :=
  match m with
  | [] => Config.unwrittenByte
  | (k, b) :: rest => if k = cell then b else Memory.read rest cell

/-- Put an entry before the first one at a higher cell. -/
def Memory.insert (m : Memory) (cell : Nat) (value : Byte) : Memory :=
  match m with
  | [] => [(cell, value)]
  | (k, b) :: rest => if cell < k then (cell, value) :: (k, b) :: rest else (k, b) :: Memory.insert rest cell value

/-- Drop a cell from the list. -/
def Memory.erase (m : Memory) (cell : Nat) : Memory :=
  m.filter (fun entry => entry.1 != cell)

/-- Write a physical cell. A byte equal to what an unlisted cell reads as removes the entry. -/
def Memory.write (m : Memory) (cell : Nat) (value : Byte) : Memory :=
  if value = Config.unwrittenByte then Memory.erase m cell else Memory.insert (Memory.erase m cell) cell value

/-- The cells a bus can hold: the 2048 bytes of RAM, and `0x2000..0xFFFF` (20_memory.md R44, R47). -/
def Memory.cellExists (cell : Nat) : Bool :=
  decide (cell < 0x0800) || (decide (0x2000 ≤ cell) && decide (cell < 0x10000))

/-- Every listed cell lies above `bound`, exists, and holds a byte worth listing; the cells rise strictly. -/
def Memory.wfAbove (bound : Option Nat) (m : Memory) : Bool :=
  match m with
  | [] => true
  | (k, b) :: rest =>
    bound.all (fun low => decide (low < k)) && Memory.cellExists k && b != Config.unwrittenByte
      && Memory.wfAbove (some k) rest

/-- The canonical form: equal memories are equal lists. -/
def Memory.wf (m : Memory) : Bool := Memory.wfAbove none m

end Sys2Proof.Machine
end

