-- ==== Sys2Proof/Machine/Ops.lean ====
section
/-!
DEFINITION. The named operations over the bus, the stack and the step: bus read and write, push and pop, the entry of
`BRK` and the return of `RTI`, the cost of a step and its completion.
-/
namespace Sys2Proof.Machine

/-- The byte of memory behind an address, if the bus holds one there: RAM mirrored below `0x2000` (20_memory.md R44,
R45, R48), plain RAM above where FlatBus is installed (R47). -/
def cellOf (high : HighRegion) (addr : Word) : Option Nat :=
  if addr.toNat < Config.ramMirrorLimit then some (addr &&& Config.ramMask).toNat
  else match high with
    | .flatRam => some addr.toNat
    | .openBus => none
    | .device => none

/-- The byte held at an address, without a bus transaction: none where the bus holds no byte. -/
def peek (s : State) (addr : Word) : Option Byte := (cellOf s.high addr).map (Memory.read s.mem)

/-- Place a byte at an address without a bus transaction, as the host does before stepping (20_memory.md R58). -/
def poke (addr : Word) (value : Byte) (s : State) : State :=
  match cellOf s.high addr with
  | some cell => { s with mem := Memory.write s.mem cell value }
  | none => s

/-- Record a bus transaction. -/
def logTxn (txn : BusTxn) (s : State) : State := { s with busLog := txn :: s.busLog }

/-- Whether a transaction lies in HighRegion, so that a device there takes part in it (20_memory.md R46). -/
def inHighRegion : BusTxn → Bool
  | .read addr _ => decide (Config.ramMirrorLimit ≤ addr.toNat)
  | .write addr _ => decide (Config.ramMirrorLimit ≤ addr.toNat)

/-- What HighRegion answers to a read where it holds no plain RAM: a device by its read function, the open bus by a
free value (20_memory.md R46; U2, U5). -/
def highValue (addr : Word) (s : State) : Byte :=
  match s.high with
  | .device => Config.deviceRead (s.busLog.filter inHighRegion) addr
  | .openBus => Config.freeByte s.draws
  | .flatRam => Config.freeByte s.draws

/-- `MemRead(addr, 1)`: the byte and the state after the transaction (20_memory.md R40, R44, R46). -/
def memRead (addr : Word) (s : State) : Byte × State :=
  match cellOf s.high addr with
  | some cell =>
    let value := Memory.read s.mem cell
    (value, logTxn (.read addr value) s)
  | none =>
    let value := highValue addr s
    (value, logTxn (.read addr value) { s with draws := s.draws + 1 })

/-- `MemWrite(addr, 1, value)` (20_memory.md R41, R45, R46): where the bus holds no byte nothing is stored. -/
def memWrite (addr : Word) (value : Byte) (s : State) : State :=
  logTxn (.write addr value) (poke addr value s)

/-- The stack address `0x0100 | zext_16(sp)` (10_state.md R11). -/
def stackAddr (sp : Byte) : Word := Config.stackBase ||| zext16 sp

/-- `Push(v)` (45_stack_flags_system.md R200). -/
def push (v : Byte) (s : State) : State :=
  let s := memWrite (stackAddr s.sp) v s
  { s with sp := s.sp - 1#8 }

/-- `Pop()` (45_stack_flags_system.md R201). -/
def pop (s : State) : Byte × State :=
  let s := { s with sp := s.sp + 1#8 }
  memRead (stackAddr s.sp) s

/-- `Fetch8()` (00_scope.md section 7.1, 40_step_and_addressing.md R91). -/
def fetch8 (s : State) : Byte × State :=
  let r := memRead s.pc s
  (r.1, { r.2 with pc := s.pc + 1#16 })

/-- TAKING THE ONE TRAP, the entry of `BRK`, in the spec's order (45_stack_flags_system.md R214, 60_exceptions.md R236):
`I` is set before the status byte is pushed, the padding byte is skipped unread. -/
def enterBreak (s : State) : State :=
  let s := { s with pc := s.pc + 1#16 }
  let s := { s with flagI := true }
  let s := push (highByte s.pc) s
  let s := push (lowByte s.pc) s
  let s := { s with flagB := true }
  let s := push (packP s) s
  let s := { s with flagB := false }
  let lo := memRead Config.brkVectorLow s
  let hi := memRead Config.brkVectorHigh lo.2
  { hi.2 with pc := joinBytes hi.1 lo.1 }

/-- RETURNING FROM IT, `RTI` (45_stack_flags_system.md R215, 60_exceptions.md R237). -/
def returnFromBreak (s : State) : State :=
  let status := pop s
  let lo := pop (unpackP status.1 status.2)
  let hi := pop lo.2
  { hi.2 with pc := joinBytes hi.1 lo.1 }

/-- What `Execute` leaves: the state and its two extra-cycle terms (40_step_and_addressing.md R90). -/
structure Executed where
  state : State
  instrExtra : Bool
  branchExtra : Nat

/-- An instruction with no extra cycle of its own, `return (0, 0)`. -/
def plain (s : State) : Executed := ⟨s, false, 0⟩

/-- An instruction that takes the page-cross cycle, `return (1, 0)` (40_step_and_addressing.md R94). -/
def eligible (s : State) : Executed := ⟨s, true, 0⟩

/-- `cost = base_cycles + (mode_extra AND instr_extra) + branch_extra` (40_step_and_addressing.md R93). -/
def stepCost (base : Nat) (modeExtra instrExtra : Bool) (branchExtra : Nat) : Nat :=
  base + (modeExtra && instrExtra).toNat + branchExtra

/-- The end of a step: `cycles <- cycles + cost` (R90), and `temp` holds whatever it holds (10_state.md R30: a free
value, log 9). -/
def retire (cost : Nat) (s : State) : State :=
  { s with cycles := s.cycles + cost, temp := Config.freeWord s.draws, draws := s.draws + 1 }

/-- Resolve-address, Execute and the end of the step (40_step_and_addressing.md R90), for an instruction of `base`
cycles whose resolver has left `resolved` and whose Execute slot is `body`. -/
def complete (base : Nat) (resolved : State × Bool) (body : State → Executed) : Host.Outcome State Fault Refusal :=
  let done := body resolved.1
  .next (retire (stepCost base resolved.2 done.instrExtra done.branchExtra) done.state)

end Sys2Proof.Machine
end

