-- ==== Sys2Proof/Machine/Operands.lean ====
section
/-!
DEFINITION. The thirteen addressing-mode resolvers (40_step_and_addressing.md R95 to R108), from the point where the
operand bytes have been fetched and `pc` stands past them (log 11). Each answers the state with the latches filled and
whether a page was crossed. A latch that a mode does not mention keeps its value (R95).
-/
namespace Sys2Proof.Machine

/-- `data_latch <- MemRead(effective_address, 1)` after `effective_address <- addr`: how every memory mode ends. -/
def latchFrom (addr : Word) (s : State) : State :=
  let r := memRead addr { s with effectiveAddress := addr }
  { r.2 with dataLatch := r.1 }

/-- Two bytes read as a 16-bit value, low byte first (20_memory.md R50). -/
def readPair (lowAddr highAddr : Word) (s : State) : Word × State :=
  let lo := memRead lowAddr s
  let hi := memRead highAddr lo.2
  (joinBytes hi.1 lo.1, hi.2)

/-- Implied (R96). -/
def resolveImp (s : State) : State × Bool := ({ s with dataLatch := s.a }, false)

/-- Accumulator (R97). -/
def resolveAcc (s : State) : State × Bool := ({ s with dataLatch := s.a }, false)

/-- Immediate (R98). -/
def resolveImm (operand : Byte) (s : State) : State × Bool := ({ s with dataLatch := operand }, false)

/-- Zero-page (R99). -/
def resolveZp (operand : Byte) (s : State) : State × Bool := (latchFrom (zext16 operand) s, false)

/-- Zero-page,X (R100): wraps inside page zero. -/
def resolveZpx (operand : Byte) (s : State) : State × Bool := (latchFrom (zext16 (operand + s.x)) s, false)

/-- Zero-page,Y (R101): wraps inside page zero. -/
def resolveZpy (operand : Byte) (s : State) : State × Bool := (latchFrom (zext16 (operand + s.y)) s, false)

/-- Absolute (R102). -/
def resolveAbs (operand : Word) (s : State) : State × Bool := (latchFrom operand s, false)

/-- The page-cross flag: the indexed address lies in another page than its base (R103, R104, R107). -/
def pageCross (base indexed : Word) : Bool := highByte indexed != highByte base

/-- Absolute,X (R103): wraps modulo 65536. -/
def resolveAbx (operand : Word) (s : State) : State × Bool :=
  let addr := operand + zext16 s.x
  (latchFrom addr s, pageCross operand addr)

/-- Absolute,Y (R104): wraps modulo 65536. -/
def resolveAby (operand : Word) (s : State) : State × Bool :=
  let addr := operand + zext16 s.y
  (latchFrom addr s, pageCross operand addr)

/-- Where Indirect reads the high byte: the pointer's low byte plus one, in the same page (R105). -/
def nextInPage (pointer : Word) : Word := joinBytes (highByte pointer) (lowByte pointer + 1#8)

/-- Indirect (R105): the pointer does not leave its page; the target is not read. -/
def resolveInd (operand : Word) (s : State) : State × Bool :=
  let pair := readPair operand (nextInPage operand) s
  ({ pair.2 with effectiveAddress := pair.1 }, false)

/-- Indexed Indirect (X) (R106): index and pointer wrap inside page zero. -/
def resolveIzx (operand : Byte) (s : State) : State × Bool :=
  let pointer := operand + s.x
  let pair := readPair (zext16 pointer) (zext16 (pointer + 1#8)) s
  (latchFrom pair.1 pair.2, false)

/-- Indirect Indexed (Y) (R107): the pointer wraps inside page zero, the sum modulo 65536. -/
def resolveIzy (operand : Byte) (s : State) : State × Bool :=
  let pair := readPair (zext16 operand) (zext16 (operand + 1#8)) s
  let addr := pair.1 + zext16 s.y
  (latchFrom addr pair.2, pageCross pair.1 addr)

/-- Relative (R108): the target is computed whether or not the branch is taken. -/
def resolveRel (displacement : Byte) (s : State) : State × Bool :=
  ({ s with effectiveAddress := s.pc + sext16 displacement }, false)

/-- The resolver of a mode (R95). -/
def resolveMode (mode : Mode) (operand : Operand) (s : State) : State × Bool :=
  match mode with
  | .imp => resolveImp s
  | .acc => resolveAcc s
  | .imm => resolveImm operand.asByte s
  | .zp => resolveZp operand.asByte s
  | .zpx => resolveZpx operand.asByte s
  | .zpy => resolveZpy operand.asByte s
  | .abs => resolveAbs operand.asWord s
  | .abx => resolveAbx operand.asWord s
  | .aby => resolveAby operand.asWord s
  | .ind => resolveInd operand.asWord s
  | .izx => resolveIzx operand.asByte s
  | .izy => resolveIzy operand.asByte s
  | .rel => resolveRel operand.asByte s

/-- The resolver an instruction's step runs, on its operand: what statements compute addresses and latches with. The
meanings call the resolver of their own mode directly. -/
def resolve (i : Instr) (s : State) : State × Bool := resolveMode i.mode i.operand s

end Sys2Proof.Machine
end

