-- ==== Sys2Proof/Machine/Alu.lean ====
section
/-!
DEFINITION. Arithmetic, logic, bit test and compares (42_alu_logic_compare.md).
-/
namespace Sys2Proof.Machine

/-- `ADC` (R140); binary whatever `D` is (R151). -/
def adcBody (s : State) : Executed := eligible (addToA s.dataLatch s)

/-- `SBC` (R141): the addition of the bit-complemented operand. -/
def sbcBody (s : State) : Executed := eligible (addToA (s.dataLatch ^^^ 0xFF#8) s)

/-- `AND` (R142). -/
def andBody (s : State) : Executed :=
  let r := s.a &&& s.dataLatch
  eligible (setZN r { s with a := r })

/-- `ORA` (R143). -/
def oraBody (s : State) : Executed :=
  let r := s.a ||| s.dataLatch
  eligible (setZN r { s with a := r })

/-- `EOR` (R144). -/
def eorBody (s : State) : Executed :=
  let r := s.a ^^^ s.dataLatch
  eligible (setZN r { s with a := r })

/-- `BIT` (R145): `Z` from the conjunction, `N` and `V` from the operand (90_conflicts.md C4; log 15). -/
def bitBody (s : State) : Executed :=
  plain { s with
    flagZ := s.a &&& s.dataLatch == 0x00#8, flagN := bitOf s.dataLatch 7, flagV := bitOf s.dataLatch 6 }

/-- `CMP` (R146). -/
def cmpBody (s : State) : Executed := eligible (compareWith s.a s.dataLatch s)

/-- `CPX` (R147). -/
def cpxBody (s : State) : Executed := plain (compareWith s.x s.dataLatch s)

/-- `CPY` (R148). -/
def cpyBody (s : State) : Executed := plain (compareWith s.y s.dataLatch s)

/-- `ADC` immediate, `69`, 2 cycles (R140, R98). -/
def execAdcImm (operand : Byte) (s : State) : Host.Outcome State Fault Refusal :=
  complete 2 (resolveImm operand s) adcBody

/-- `ADC` zero page, `65`, 3 cycles (R140, R99). -/
def execAdcZp (operand : Byte) (s : State) : Host.Outcome State Fault Refusal :=
  complete 3 (resolveZp operand s) adcBody

/-- `ADC` zero page,X, `75`, 4 cycles (R140, R100). -/
def execAdcZpx (operand : Byte) (s : State) : Host.Outcome State Fault Refusal :=
  complete 4 (resolveZpx operand s) adcBody

/-- `ADC` absolute, `6D`, 4 cycles (R140, R102). -/
def execAdcAbs (operand : Word) (s : State) : Host.Outcome State Fault Refusal :=
  complete 4 (resolveAbs operand s) adcBody

/-- `ADC` absolute,X, `7D`, 4 cycles (R140, R103). -/
def execAdcAbx (operand : Word) (s : State) : Host.Outcome State Fault Refusal :=
  complete 4 (resolveAbx operand s) adcBody

/-- `ADC` absolute,Y, `79`, 4 cycles (R140, R104). -/
def execAdcAby (operand : Word) (s : State) : Host.Outcome State Fault Refusal :=
  complete 4 (resolveAby operand s) adcBody

/-- `ADC` indexed indirect (X), `61`, 6 cycles (R140, R106). -/
def execAdcIzx (operand : Byte) (s : State) : Host.Outcome State Fault Refusal :=
  complete 6 (resolveIzx operand s) adcBody

/-- `ADC` indirect indexed (Y), `71`, 5 cycles (R140, R107). -/
def execAdcIzy (operand : Byte) (s : State) : Host.Outcome State Fault Refusal :=
  complete 5 (resolveIzy operand s) adcBody

/-- `SBC` immediate, `E9`, 2 cycles (R141, R98). -/
def execSbcImm (operand : Byte) (s : State) : Host.Outcome State Fault Refusal :=
  complete 2 (resolveImm operand s) sbcBody

/-- `SBC` zero page, `E5`, 3 cycles (R141, R99). -/
def execSbcZp (operand : Byte) (s : State) : Host.Outcome State Fault Refusal :=
  complete 3 (resolveZp operand s) sbcBody

/-- `SBC` zero page,X, `F5`, 4 cycles (R141, R100). -/
def execSbcZpx (operand : Byte) (s : State) : Host.Outcome State Fault Refusal :=
  complete 4 (resolveZpx operand s) sbcBody

/-- `SBC` absolute, `ED`, 4 cycles (R141, R102). -/
def execSbcAbs (operand : Word) (s : State) : Host.Outcome State Fault Refusal :=
  complete 4 (resolveAbs operand s) sbcBody

/-- `SBC` absolute,X, `FD`, 4 cycles (R141, R103). -/
def execSbcAbx (operand : Word) (s : State) : Host.Outcome State Fault Refusal :=
  complete 4 (resolveAbx operand s) sbcBody

/-- `SBC` absolute,Y, `F9`, 4 cycles (R141, R104). -/
def execSbcAby (operand : Word) (s : State) : Host.Outcome State Fault Refusal :=
  complete 4 (resolveAby operand s) sbcBody

/-- `SBC` indexed indirect (X), `E1`, 6 cycles (R141, R106). -/
def execSbcIzx (operand : Byte) (s : State) : Host.Outcome State Fault Refusal :=
  complete 6 (resolveIzx operand s) sbcBody

/-- `SBC` indirect indexed (Y), `F1`, 5 cycles (R141, R107). -/
def execSbcIzy (operand : Byte) (s : State) : Host.Outcome State Fault Refusal :=
  complete 5 (resolveIzy operand s) sbcBody

/-- `AND` immediate, `29`, 2 cycles (R142, R98). -/
def execAndImm (operand : Byte) (s : State) : Host.Outcome State Fault Refusal :=
  complete 2 (resolveImm operand s) andBody

/-- `AND` zero page, `25`, 3 cycles (R142, R99). -/
def execAndZp (operand : Byte) (s : State) : Host.Outcome State Fault Refusal :=
  complete 3 (resolveZp operand s) andBody

/-- `AND` zero page,X, `35`, 4 cycles (R142, R100). -/
def execAndZpx (operand : Byte) (s : State) : Host.Outcome State Fault Refusal :=
  complete 4 (resolveZpx operand s) andBody

/-- `AND` absolute, `2D`, 4 cycles (R142, R102). -/
def execAndAbs (operand : Word) (s : State) : Host.Outcome State Fault Refusal :=
  complete 4 (resolveAbs operand s) andBody

/-- `AND` absolute,X, `3D`, 4 cycles (R142, R103). -/
def execAndAbx (operand : Word) (s : State) : Host.Outcome State Fault Refusal :=
  complete 4 (resolveAbx operand s) andBody

/-- `AND` absolute,Y, `39`, 4 cycles (R142, R104). -/
def execAndAby (operand : Word) (s : State) : Host.Outcome State Fault Refusal :=
  complete 4 (resolveAby operand s) andBody

/-- `AND` indexed indirect (X), `21`, 6 cycles (R142, R106). -/
def execAndIzx (operand : Byte) (s : State) : Host.Outcome State Fault Refusal :=
  complete 6 (resolveIzx operand s) andBody

/-- `AND` indirect indexed (Y), `31`, 5 cycles (R142, R107). -/
def execAndIzy (operand : Byte) (s : State) : Host.Outcome State Fault Refusal :=
  complete 5 (resolveIzy operand s) andBody

/-- `ORA` immediate, `09`, 2 cycles (R143, R98). -/
def execOraImm (operand : Byte) (s : State) : Host.Outcome State Fault Refusal :=
  complete 2 (resolveImm operand s) oraBody

/-- `ORA` zero page, `05`, 3 cycles (R143, R99). -/
def execOraZp (operand : Byte) (s : State) : Host.Outcome State Fault Refusal :=
  complete 3 (resolveZp operand s) oraBody

/-- `ORA` zero page,X, `15`, 4 cycles (R143, R100). -/
def execOraZpx (operand : Byte) (s : State) : Host.Outcome State Fault Refusal :=
  complete 4 (resolveZpx operand s) oraBody

/-- `ORA` absolute, `0D`, 4 cycles (R143, R102). -/
def execOraAbs (operand : Word) (s : State) : Host.Outcome State Fault Refusal :=
  complete 4 (resolveAbs operand s) oraBody

/-- `ORA` absolute,X, `1D`, 4 cycles (R143, R103). -/
def execOraAbx (operand : Word) (s : State) : Host.Outcome State Fault Refusal :=
  complete 4 (resolveAbx operand s) oraBody

/-- `ORA` absolute,Y, `19`, 4 cycles (R143, R104). -/
def execOraAby (operand : Word) (s : State) : Host.Outcome State Fault Refusal :=
  complete 4 (resolveAby operand s) oraBody

/-- `ORA` indexed indirect (X), `01`, 6 cycles (R143, R106). -/
def execOraIzx (operand : Byte) (s : State) : Host.Outcome State Fault Refusal :=
  complete 6 (resolveIzx operand s) oraBody

/-- `ORA` indirect indexed (Y), `11`, 5 cycles (R143, R107). -/
def execOraIzy (operand : Byte) (s : State) : Host.Outcome State Fault Refusal :=
  complete 5 (resolveIzy operand s) oraBody

/-- `EOR` immediate, `49`, 2 cycles (R144, R98). -/
def execEorImm (operand : Byte) (s : State) : Host.Outcome State Fault Refusal :=
  complete 2 (resolveImm operand s) eorBody

/-- `EOR` zero page, `45`, 3 cycles (R144, R99). -/
def execEorZp (operand : Byte) (s : State) : Host.Outcome State Fault Refusal :=
  complete 3 (resolveZp operand s) eorBody

/-- `EOR` zero page,X, `55`, 4 cycles (R144, R100). -/
def execEorZpx (operand : Byte) (s : State) : Host.Outcome State Fault Refusal :=
  complete 4 (resolveZpx operand s) eorBody

/-- `EOR` absolute, `4D`, 4 cycles (R144, R102). -/
def execEorAbs (operand : Word) (s : State) : Host.Outcome State Fault Refusal :=
  complete 4 (resolveAbs operand s) eorBody

/-- `EOR` absolute,X, `5D`, 4 cycles (R144, R103). -/
def execEorAbx (operand : Word) (s : State) : Host.Outcome State Fault Refusal :=
  complete 4 (resolveAbx operand s) eorBody

/-- `EOR` absolute,Y, `59`, 4 cycles (R144, R104). -/
def execEorAby (operand : Word) (s : State) : Host.Outcome State Fault Refusal :=
  complete 4 (resolveAby operand s) eorBody

/-- `EOR` indexed indirect (X), `41`, 6 cycles (R144, R106). -/
def execEorIzx (operand : Byte) (s : State) : Host.Outcome State Fault Refusal :=
  complete 6 (resolveIzx operand s) eorBody

/-- `EOR` indirect indexed (Y), `51`, 5 cycles (R144, R107). -/
def execEorIzy (operand : Byte) (s : State) : Host.Outcome State Fault Refusal :=
  complete 5 (resolveIzy operand s) eorBody

/-- `BIT` zero page, `24`, 3 cycles (R145, R99). -/
def execBitZp (operand : Byte) (s : State) : Host.Outcome State Fault Refusal :=
  complete 3 (resolveZp operand s) bitBody

/-- `BIT` absolute, `2C`, 4 cycles (R145, R102). -/
def execBitAbs (operand : Word) (s : State) : Host.Outcome State Fault Refusal :=
  complete 4 (resolveAbs operand s) bitBody

/-- `CMP` immediate, `C9`, 2 cycles (R146, R98). -/
def execCmpImm (operand : Byte) (s : State) : Host.Outcome State Fault Refusal :=
  complete 2 (resolveImm operand s) cmpBody

/-- `CMP` zero page, `C5`, 3 cycles (R146, R99). -/
def execCmpZp (operand : Byte) (s : State) : Host.Outcome State Fault Refusal :=
  complete 3 (resolveZp operand s) cmpBody

/-- `CMP` zero page,X, `D5`, 4 cycles (R146, R100). -/
def execCmpZpx (operand : Byte) (s : State) : Host.Outcome State Fault Refusal :=
  complete 4 (resolveZpx operand s) cmpBody

/-- `CMP` absolute, `CD`, 4 cycles (R146, R102). -/
def execCmpAbs (operand : Word) (s : State) : Host.Outcome State Fault Refusal :=
  complete 4 (resolveAbs operand s) cmpBody

/-- `CMP` absolute,X, `DD`, 4 cycles (R146, R103). -/
def execCmpAbx (operand : Word) (s : State) : Host.Outcome State Fault Refusal :=
  complete 4 (resolveAbx operand s) cmpBody

/-- `CMP` absolute,Y, `D9`, 4 cycles (R146, R104). -/
def execCmpAby (operand : Word) (s : State) : Host.Outcome State Fault Refusal :=
  complete 4 (resolveAby operand s) cmpBody

/-- `CMP` indexed indirect (X), `C1`, 6 cycles (R146, R106). -/
def execCmpIzx (operand : Byte) (s : State) : Host.Outcome State Fault Refusal :=
  complete 6 (resolveIzx operand s) cmpBody

/-- `CMP` indirect indexed (Y), `D1`, 5 cycles (R146, R107). -/
def execCmpIzy (operand : Byte) (s : State) : Host.Outcome State Fault Refusal :=
  complete 5 (resolveIzy operand s) cmpBody

/-- `CPX` immediate, `E0`, 2 cycles (R147, R98). -/
def execCpxImm (operand : Byte) (s : State) : Host.Outcome State Fault Refusal :=
  complete 2 (resolveImm operand s) cpxBody

/-- `CPX` zero page, `E4`, 3 cycles (R147, R99). -/
def execCpxZp (operand : Byte) (s : State) : Host.Outcome State Fault Refusal :=
  complete 3 (resolveZp operand s) cpxBody

/-- `CPX` absolute, `EC`, 4 cycles (R147, R102). -/
def execCpxAbs (operand : Word) (s : State) : Host.Outcome State Fault Refusal :=
  complete 4 (resolveAbs operand s) cpxBody

/-- `CPY` immediate, `C0`, 2 cycles (R148, R98). -/
def execCpyImm (operand : Byte) (s : State) : Host.Outcome State Fault Refusal :=
  complete 2 (resolveImm operand s) cpyBody

/-- `CPY` zero page, `C4`, 3 cycles (R148, R99). -/
def execCpyZp (operand : Byte) (s : State) : Host.Outcome State Fault Refusal :=
  complete 3 (resolveZp operand s) cpyBody

/-- `CPY` absolute, `CC`, 4 cycles (R148, R102). -/
def execCpyAbs (operand : Word) (s : State) : Host.Outcome State Fault Refusal :=
  complete 4 (resolveAbs operand s) cpyBody

end Sys2Proof.Machine
end

