-- ==== Sys2Proof/Machine/Control.lean ====
section
/-!
DEFINITION. Branches, jump, subroutine call and return (44_control_transfer.md).
-/
namespace Sys2Proof.Machine

/-- The common branch rule (R180): the page test compares the target with the address after the branch. -/
def branchIf (cond : Bool) (s : State) : Executed :=
  if cond then
    ⟨{ s with pc := s.effectiveAddress }, false, if highByte s.effectiveAddress = highByte s.pc then 1 else 2⟩
  else ⟨s, false, 0⟩

/-- `BCC` (R181). -/
def bccBody (s : State) : Executed := branchIf (!s.flagC) s

/-- `BCS` (R182). -/
def bcsBody (s : State) : Executed := branchIf s.flagC s

/-- `BEQ` (R183). -/
def beqBody (s : State) : Executed := branchIf s.flagZ s

/-- `BNE` (R184). -/
def bneBody (s : State) : Executed := branchIf (!s.flagZ) s

/-- `BMI` (R185). -/
def bmiBody (s : State) : Executed := branchIf s.flagN s

/-- `BPL` (R186). -/
def bplBody (s : State) : Executed := branchIf (!s.flagN) s

/-- `BVC` (R187). -/
def bvcBody (s : State) : Executed := branchIf (!s.flagV) s

/-- `BVS` (R188). -/
def bvsBody (s : State) : Executed := branchIf s.flagV s

/-- `JMP` (R189). -/
def jmpBody (s : State) : Executed := plain { s with pc := s.effectiveAddress }

/-- `JSR` (R190): pushes `pc - 1`, high byte first. -/
def jsrBody (s : State) : Executed :=
  let t := s.pc - 1#16
  let s := push (highByte t) s
  let s := push (lowByte t) s
  plain { s with pc := s.effectiveAddress }

/-- `RTS` (R191): pops low then high and adds one. -/
def rtsBody (s : State) : Executed :=
  let lo := pop s
  let hi := pop lo.2
  plain { hi.2 with pc := joinBytes hi.1 lo.1 + 1#16 }

/-- `BCC` relative, `90`, 2 cycles (R181, R108). -/
def execBcc (displacement : Byte) (s : State) : Host.Outcome State Fault Refusal :=
  complete 2 (resolveRel displacement s) bccBody

/-- `BCS` relative, `B0`, 2 cycles (R182, R108). -/
def execBcs (displacement : Byte) (s : State) : Host.Outcome State Fault Refusal :=
  complete 2 (resolveRel displacement s) bcsBody

/-- `BEQ` relative, `F0`, 2 cycles (R183, R108). -/
def execBeq (displacement : Byte) (s : State) : Host.Outcome State Fault Refusal :=
  complete 2 (resolveRel displacement s) beqBody

/-- `BNE` relative, `D0`, 2 cycles (R184, R108). -/
def execBne (displacement : Byte) (s : State) : Host.Outcome State Fault Refusal :=
  complete 2 (resolveRel displacement s) bneBody

/-- `BMI` relative, `30`, 2 cycles (R185, R108). -/
def execBmi (displacement : Byte) (s : State) : Host.Outcome State Fault Refusal :=
  complete 2 (resolveRel displacement s) bmiBody

/-- `BPL` relative, `10`, 2 cycles (R186, R108). -/
def execBpl (displacement : Byte) (s : State) : Host.Outcome State Fault Refusal :=
  complete 2 (resolveRel displacement s) bplBody

/-- `BVC` relative, `50`, 2 cycles (R187, R108). -/
def execBvc (displacement : Byte) (s : State) : Host.Outcome State Fault Refusal :=
  complete 2 (resolveRel displacement s) bvcBody

/-- `BVS` relative, `70`, 2 cycles (R188, R108). -/
def execBvs (displacement : Byte) (s : State) : Host.Outcome State Fault Refusal :=
  complete 2 (resolveRel displacement s) bvsBody

/-- `JMP` absolute, `4C`, 3 cycles (R189, R102). -/
def execJmpAbs (operand : Word) (s : State) : Host.Outcome State Fault Refusal :=
  complete 3 (resolveAbs operand s) jmpBody

/-- `JMP` indirect, `6C`, 5 cycles (R189, R105). -/
def execJmpInd (operand : Word) (s : State) : Host.Outcome State Fault Refusal :=
  complete 5 (resolveInd operand s) jmpBody

/-- `JSR` absolute, `20`, 6 cycles (R190, R102). -/
def execJsr (operand : Word) (s : State) : Host.Outcome State Fault Refusal :=
  complete 6 (resolveAbs operand s) jsrBody

/-- `RTS` implied, `60`, 6 cycles (R191, R96). -/
def execRts (s : State) : Host.Outcome State Fault Refusal :=
  complete 6 (resolveImp s) rtsBody

end Sys2Proof.Machine
end

