-- ==== Sys2Proof/Machine/LoadStore.lean ====
section
/-!
DEFINITION. Loads, stores and register transfers (41_load_store_transfer.md). Each `...Body` is the Execute slot of one rule;
each `exec...` is one row of the opcode table.
-/
namespace Sys2Proof.Machine

/-- `LDA` (R120). -/
def ldaBody (s : State) : Executed := eligible (setZN s.dataLatch { s with a := s.dataLatch })

/-- `LDX` (R121). -/
def ldxBody (s : State) : Executed := eligible (setZN s.dataLatch { s with x := s.dataLatch })

/-- `LDY` (R122). -/
def ldyBody (s : State) : Executed := eligible (setZN s.dataLatch { s with y := s.dataLatch })

/-- `STA` (R123). -/
def staBody (s : State) : Executed := plain (memWrite s.effectiveAddress s.a s)

/-- `STX` (R124). -/
def stxBody (s : State) : Executed := plain (memWrite s.effectiveAddress s.x s)

/-- `STY` (R125). -/
def styBody (s : State) : Executed := plain (memWrite s.effectiveAddress s.y s)

/-- `TAX` (R126). -/
def taxBody (s : State) : Executed := plain (setZN s.a { s with x := s.a })

/-- `TAY` (R127). -/
def tayBody (s : State) : Executed := plain (setZN s.a { s with y := s.a })

/-- `TSX` (R128). -/
def tsxBody (s : State) : Executed := plain (setZN s.sp { s with x := s.sp })

/-- `TXA` (R129). -/
def txaBody (s : State) : Executed := plain (setZN s.x { s with a := s.x })

/-- `TXS` (R130): no flag. -/
def txsBody (s : State) : Executed := plain { s with sp := s.x }

/-- `TYA` (R131). -/
def tyaBody (s : State) : Executed := plain (setZN s.y { s with a := s.y })

/-- `LDA` immediate, `A9`, 2 cycles (R120, R98). -/
def execLdaImm (operand : Byte) (s : State) : Host.Outcome State Fault Refusal :=
  complete 2 (resolveImm operand s) ldaBody

/-- `LDA` zero page, `A5`, 3 cycles (R120, R99). -/
def execLdaZp (operand : Byte) (s : State) : Host.Outcome State Fault Refusal :=
  complete 3 (resolveZp operand s) ldaBody

/-- `LDA` zero page,X, `B5`, 4 cycles (R120, R100). -/
def execLdaZpx (operand : Byte) (s : State) : Host.Outcome State Fault Refusal :=
  complete 4 (resolveZpx operand s) ldaBody

/-- `LDA` absolute, `AD`, 4 cycles (R120, R102). -/
def execLdaAbs (operand : Word) (s : State) : Host.Outcome State Fault Refusal :=
  complete 4 (resolveAbs operand s) ldaBody

/-- `LDA` absolute,X, `BD`, 4 cycles (R120, R103). -/
def execLdaAbx (operand : Word) (s : State) : Host.Outcome State Fault Refusal :=
  complete 4 (resolveAbx operand s) ldaBody

/-- `LDA` absolute,Y, `B9`, 4 cycles (R120, R104). -/
def execLdaAby (operand : Word) (s : State) : Host.Outcome State Fault Refusal :=
  complete 4 (resolveAby operand s) ldaBody

/-- `LDA` indexed indirect (X), `A1`, 6 cycles (R120, R106). -/
def execLdaIzx (operand : Byte) (s : State) : Host.Outcome State Fault Refusal :=
  complete 6 (resolveIzx operand s) ldaBody

/-- `LDA` indirect indexed (Y), `B1`, 5 cycles (R120, R107). -/
def execLdaIzy (operand : Byte) (s : State) : Host.Outcome State Fault Refusal :=
  complete 5 (resolveIzy operand s) ldaBody

/-- `LDX` immediate, `A2`, 2 cycles (R121, R98). -/
def execLdxImm (operand : Byte) (s : State) : Host.Outcome State Fault Refusal :=
  complete 2 (resolveImm operand s) ldxBody

/-- `LDX` zero page, `A6`, 3 cycles (R121, R99). -/
def execLdxZp (operand : Byte) (s : State) : Host.Outcome State Fault Refusal :=
  complete 3 (resolveZp operand s) ldxBody

/-- `LDX` zero page,Y, `B6`, 4 cycles (R121, R101). -/
def execLdxZpy (operand : Byte) (s : State) : Host.Outcome State Fault Refusal :=
  complete 4 (resolveZpy operand s) ldxBody

/-- `LDX` absolute, `AE`, 4 cycles (R121, R102). -/
def execLdxAbs (operand : Word) (s : State) : Host.Outcome State Fault Refusal :=
  complete 4 (resolveAbs operand s) ldxBody

/-- `LDX` absolute,Y, `BE`, 4 cycles (R121, R104). -/
def execLdxAby (operand : Word) (s : State) : Host.Outcome State Fault Refusal :=
  complete 4 (resolveAby operand s) ldxBody

/-- `LDY` immediate, `A0`, 2 cycles (R122, R98). -/
def execLdyImm (operand : Byte) (s : State) : Host.Outcome State Fault Refusal :=
  complete 2 (resolveImm operand s) ldyBody

/-- `LDY` zero page, `A4`, 3 cycles (R122, R99). -/
def execLdyZp (operand : Byte) (s : State) : Host.Outcome State Fault Refusal :=
  complete 3 (resolveZp operand s) ldyBody

/-- `LDY` zero page,X, `B4`, 4 cycles (R122, R100). -/
def execLdyZpx (operand : Byte) (s : State) : Host.Outcome State Fault Refusal :=
  complete 4 (resolveZpx operand s) ldyBody

/-- `LDY` absolute, `AC`, 4 cycles (R122, R102). -/
def execLdyAbs (operand : Word) (s : State) : Host.Outcome State Fault Refusal :=
  complete 4 (resolveAbs operand s) ldyBody

/-- `LDY` absolute,X, `BC`, 4 cycles (R122, R103). -/
def execLdyAbx (operand : Word) (s : State) : Host.Outcome State Fault Refusal :=
  complete 4 (resolveAbx operand s) ldyBody

/-- `STA` zero page, `85`, 3 cycles (R123, R99). -/
def execStaZp (operand : Byte) (s : State) : Host.Outcome State Fault Refusal :=
  complete 3 (resolveZp operand s) staBody

/-- `STA` zero page,X, `95`, 4 cycles (R123, R100). -/
def execStaZpx (operand : Byte) (s : State) : Host.Outcome State Fault Refusal :=
  complete 4 (resolveZpx operand s) staBody

/-- `STA` absolute, `8D`, 4 cycles (R123, R102). -/
def execStaAbs (operand : Word) (s : State) : Host.Outcome State Fault Refusal :=
  complete 4 (resolveAbs operand s) staBody

/-- `STA` absolute,X, `9D`, 5 cycles (R123, R103). -/
def execStaAbx (operand : Word) (s : State) : Host.Outcome State Fault Refusal :=
  complete 5 (resolveAbx operand s) staBody

/-- `STA` absolute,Y, `99`, 5 cycles (R123, R104). -/
def execStaAby (operand : Word) (s : State) : Host.Outcome State Fault Refusal :=
  complete 5 (resolveAby operand s) staBody

/-- `STA` indexed indirect (X), `81`, 6 cycles (R123, R106). -/
def execStaIzx (operand : Byte) (s : State) : Host.Outcome State Fault Refusal :=
  complete 6 (resolveIzx operand s) staBody

/-- `STA` indirect indexed (Y), `91`, 6 cycles (R123, R107). -/
def execStaIzy (operand : Byte) (s : State) : Host.Outcome State Fault Refusal :=
  complete 6 (resolveIzy operand s) staBody

/-- `STX` zero page, `86`, 3 cycles (R124, R99). -/
def execStxZp (operand : Byte) (s : State) : Host.Outcome State Fault Refusal :=
  complete 3 (resolveZp operand s) stxBody

/-- `STX` zero page,Y, `96`, 4 cycles (R124, R101). -/
def execStxZpy (operand : Byte) (s : State) : Host.Outcome State Fault Refusal :=
  complete 4 (resolveZpy operand s) stxBody

/-- `STX` absolute, `8E`, 4 cycles (R124, R102). -/
def execStxAbs (operand : Word) (s : State) : Host.Outcome State Fault Refusal :=
  complete 4 (resolveAbs operand s) stxBody

/-- `STY` zero page, `84`, 3 cycles (R125, R99). -/
def execStyZp (operand : Byte) (s : State) : Host.Outcome State Fault Refusal :=
  complete 3 (resolveZp operand s) styBody

/-- `STY` zero page,X, `94`, 4 cycles (R125, R100). -/
def execStyZpx (operand : Byte) (s : State) : Host.Outcome State Fault Refusal :=
  complete 4 (resolveZpx operand s) styBody

/-- `STY` absolute, `8C`, 4 cycles (R125, R102). -/
def execStyAbs (operand : Word) (s : State) : Host.Outcome State Fault Refusal :=
  complete 4 (resolveAbs operand s) styBody

/-- `TAX` implied, `AA`, 2 cycles (R126, R96). -/
def execTax (s : State) : Host.Outcome State Fault Refusal :=
  complete 2 (resolveImp s) taxBody

/-- `TAY` implied, `A8`, 2 cycles (R127, R96). -/
def execTay (s : State) : Host.Outcome State Fault Refusal :=
  complete 2 (resolveImp s) tayBody

/-- `TSX` implied, `BA`, 2 cycles (R128, R96). -/
def execTsx (s : State) : Host.Outcome State Fault Refusal :=
  complete 2 (resolveImp s) tsxBody

/-- `TXA` implied, `8A`, 2 cycles (R129, R96). -/
def execTxa (s : State) : Host.Outcome State Fault Refusal :=
  complete 2 (resolveImp s) txaBody

/-- `TXS` implied, `9A`, 2 cycles (R130, R96). -/
def execTxs (s : State) : Host.Outcome State Fault Refusal :=
  complete 2 (resolveImp s) txsBody

/-- `TYA` implied, `98`, 2 cycles (R131, R96). -/
def execTya (s : State) : Host.Outcome State Fault Refusal :=
  complete 2 (resolveImp s) tyaBody

end Sys2Proof.Machine
end

