-- ==== Sys2Proof/Machine/Shift.lean ====
section
/-!
DEFINITION. Shifts, rotates, increments and decrements (43_shift_incdec.md).
-/
namespace Sys2Proof.Machine

/-- `WriteBack(mode, r)` (R160): the accumulator in Accumulator or Implied mode, memory otherwise. -/
def writeBack (mode : Mode) (r : Byte) (s : State) : State :=
  if mode = .acc ∨ mode = .imp then { s with a := r } else memWrite s.effectiveAddress r s

/-- `ASL` (R161): nine bits, the top one to `C`. -/
def aslBody (mode : Mode) (s : State) : Executed :=
  let t := zext9 s.dataLatch <<< 1
  let r := low8 t
  plain (writeBack mode r (setZN r { s with flagC := t.getLsbD 8 }))

/-- `LSR` (R162). -/
def lsrBody (mode : Mode) (s : State) : Executed :=
  let r := s.dataLatch >>> 1
  plain (writeBack mode r (setZN r { s with flagC := bitOf s.dataLatch 0 }))

/-- `ROL` (R163): the old `C` enters bit 0. -/
def rolBody (mode : Mode) (s : State) : Executed :=
  let t := (zext9 s.dataLatch <<< 1) ||| carry9 s.flagC
  let r := low8 t
  plain (writeBack mode r (setZN r { s with flagC := t.getLsbD 8 }))

/-- `ROR` (R164): the old `C` enters bit 7. -/
def rorBody (mode : Mode) (s : State) : Executed :=
  let r := ((BitVec.ofBool s.flagC).setWidth 8 <<< 7) ||| (s.dataLatch >>> 1)
  plain (writeBack mode r (setZN r { s with flagC := bitOf s.dataLatch 0 }))

/-- `INC` (R165). -/
def incBody (s : State) : Executed :=
  let r := s.dataLatch + 1#8
  plain (memWrite s.effectiveAddress r (setZN r s))

/-- `DEC` (R166). -/
def decBody (s : State) : Executed :=
  let r := s.dataLatch - 1#8
  plain (memWrite s.effectiveAddress r (setZN r s))

/-- `INX` (R167). -/
def inxBody (s : State) : Executed :=
  let r := s.x + 1#8
  plain (setZN r { s with x := r })

/-- `INY` (R168). -/
def inyBody (s : State) : Executed :=
  let r := s.y + 1#8
  plain (setZN r { s with y := r })

/-- `DEX` (R169). -/
def dexBody (s : State) : Executed :=
  let r := s.x - 1#8
  plain (setZN r { s with x := r })

/-- `DEY` (R170). -/
def deyBody (s : State) : Executed :=
  let r := s.y - 1#8
  plain (setZN r { s with y := r })

/-- `ASL` accumulator, `0A`, 2 cycles (R161, R97). -/
def execAslAcc (s : State) : Host.Outcome State Fault Refusal :=
  complete 2 (resolveAcc s) (aslBody .acc)

/-- `ASL` zero page, `06`, 5 cycles (R161, R99). -/
def execAslZp (operand : Byte) (s : State) : Host.Outcome State Fault Refusal :=
  complete 5 (resolveZp operand s) (aslBody .zp)

/-- `ASL` zero page,X, `16`, 6 cycles (R161, R100). -/
def execAslZpx (operand : Byte) (s : State) : Host.Outcome State Fault Refusal :=
  complete 6 (resolveZpx operand s) (aslBody .zpx)

/-- `ASL` absolute, `0E`, 6 cycles (R161, R102). -/
def execAslAbs (operand : Word) (s : State) : Host.Outcome State Fault Refusal :=
  complete 6 (resolveAbs operand s) (aslBody .abs)

/-- `ASL` absolute,X, `1E`, 7 cycles (R161, R103). -/
def execAslAbx (operand : Word) (s : State) : Host.Outcome State Fault Refusal :=
  complete 7 (resolveAbx operand s) (aslBody .abx)

/-- `LSR` accumulator, `4A`, 2 cycles (R162, R97). -/
def execLsrAcc (s : State) : Host.Outcome State Fault Refusal :=
  complete 2 (resolveAcc s) (lsrBody .acc)

/-- `LSR` zero page, `46`, 5 cycles (R162, R99). -/
def execLsrZp (operand : Byte) (s : State) : Host.Outcome State Fault Refusal :=
  complete 5 (resolveZp operand s) (lsrBody .zp)

/-- `LSR` zero page,X, `56`, 6 cycles (R162, R100). -/
def execLsrZpx (operand : Byte) (s : State) : Host.Outcome State Fault Refusal :=
  complete 6 (resolveZpx operand s) (lsrBody .zpx)

/-- `LSR` absolute, `4E`, 6 cycles (R162, R102). -/
def execLsrAbs (operand : Word) (s : State) : Host.Outcome State Fault Refusal :=
  complete 6 (resolveAbs operand s) (lsrBody .abs)

/-- `LSR` absolute,X, `5E`, 7 cycles (R162, R103). -/
def execLsrAbx (operand : Word) (s : State) : Host.Outcome State Fault Refusal :=
  complete 7 (resolveAbx operand s) (lsrBody .abx)

/-- `ROL` accumulator, `2A`, 2 cycles (R163, R97). -/
def execRolAcc (s : State) : Host.Outcome State Fault Refusal :=
  complete 2 (resolveAcc s) (rolBody .acc)

/-- `ROL` zero page, `26`, 5 cycles (R163, R99). -/
def execRolZp (operand : Byte) (s : State) : Host.Outcome State Fault Refusal :=
  complete 5 (resolveZp operand s) (rolBody .zp)

/-- `ROL` zero page,X, `36`, 6 cycles (R163, R100). -/
def execRolZpx (operand : Byte) (s : State) : Host.Outcome State Fault Refusal :=
  complete 6 (resolveZpx operand s) (rolBody .zpx)

/-- `ROL` absolute, `2E`, 6 cycles (R163, R102). -/
def execRolAbs (operand : Word) (s : State) : Host.Outcome State Fault Refusal :=
  complete 6 (resolveAbs operand s) (rolBody .abs)

/-- `ROL` absolute,X, `3E`, 7 cycles (R163, R103). -/
def execRolAbx (operand : Word) (s : State) : Host.Outcome State Fault Refusal :=
  complete 7 (resolveAbx operand s) (rolBody .abx)

/-- `ROR` accumulator, `6A`, 2 cycles (R164, R97). -/
def execRorAcc (s : State) : Host.Outcome State Fault Refusal :=
  complete 2 (resolveAcc s) (rorBody .acc)

/-- `ROR` zero page, `66`, 5 cycles (R164, R99). -/
def execRorZp (operand : Byte) (s : State) : Host.Outcome State Fault Refusal :=
  complete 5 (resolveZp operand s) (rorBody .zp)

/-- `ROR` zero page,X, `76`, 6 cycles (R164, R100). -/
def execRorZpx (operand : Byte) (s : State) : Host.Outcome State Fault Refusal :=
  complete 6 (resolveZpx operand s) (rorBody .zpx)

/-- `ROR` absolute, `6E`, 6 cycles (R164, R102). -/
def execRorAbs (operand : Word) (s : State) : Host.Outcome State Fault Refusal :=
  complete 6 (resolveAbs operand s) (rorBody .abs)

/-- `ROR` absolute,X, `7E`, 7 cycles (R164, R103). -/
def execRorAbx (operand : Word) (s : State) : Host.Outcome State Fault Refusal :=
  complete 7 (resolveAbx operand s) (rorBody .abx)

/-- `INC` zero page, `E6`, 5 cycles (R165, R99). -/
def execIncZp (operand : Byte) (s : State) : Host.Outcome State Fault Refusal :=
  complete 5 (resolveZp operand s) incBody

/-- `INC` zero page,X, `F6`, 6 cycles (R165, R100). -/
def execIncZpx (operand : Byte) (s : State) : Host.Outcome State Fault Refusal :=
  complete 6 (resolveZpx operand s) incBody

/-- `INC` absolute, `EE`, 6 cycles (R165, R102). -/
def execIncAbs (operand : Word) (s : State) : Host.Outcome State Fault Refusal :=
  complete 6 (resolveAbs operand s) incBody

/-- `INC` absolute,X, `FE`, 7 cycles (R165, R103). -/
def execIncAbx (operand : Word) (s : State) : Host.Outcome State Fault Refusal :=
  complete 7 (resolveAbx operand s) incBody

/-- `DEC` zero page, `C6`, 5 cycles (R166, R99). -/
def execDecZp (operand : Byte) (s : State) : Host.Outcome State Fault Refusal :=
  complete 5 (resolveZp operand s) decBody

/-- `DEC` zero page,X, `D6`, 6 cycles (R166, R100). -/
def execDecZpx (operand : Byte) (s : State) : Host.Outcome State Fault Refusal :=
  complete 6 (resolveZpx operand s) decBody

/-- `DEC` absolute, `CE`, 6 cycles (R166, R102). -/
def execDecAbs (operand : Word) (s : State) : Host.Outcome State Fault Refusal :=
  complete 6 (resolveAbs operand s) decBody

/-- `DEC` absolute,X, `DE`, 7 cycles (R166, R103). -/
def execDecAbx (operand : Word) (s : State) : Host.Outcome State Fault Refusal :=
  complete 7 (resolveAbx operand s) decBody

/-- `INX` implied, `E8`, 2 cycles (R167, R96). -/
def execInx (s : State) : Host.Outcome State Fault Refusal :=
  complete 2 (resolveImp s) inxBody

/-- `INY` implied, `C8`, 2 cycles (R168, R96). -/
def execIny (s : State) : Host.Outcome State Fault Refusal :=
  complete 2 (resolveImp s) inyBody

/-- `DEX` implied, `CA`, 2 cycles (R169, R96). -/
def execDex (s : State) : Host.Outcome State Fault Refusal :=
  complete 2 (resolveImp s) dexBody

/-- `DEY` implied, `88`, 2 cycles (R170, R96). -/
def execDey (s : State) : Host.Outcome State Fault Refusal :=
  complete 2 (resolveImp s) deyBody

end Sys2Proof.Machine
end

