-- ==== Sys2Proof/Machine/System.lean ====
section
/-!
DEFINITION. Stack, flag and system instructions (45_stack_flags_system.md).
-/
namespace Sys2Proof.Machine

/-- `PHA` (R202). -/
def phaBody (s : State) : Executed := plain (push s.a s)

/-- `PLA` (R203): sets `Z` and `N` (log 15). -/
def plaBody (s : State) : Executed :=
  let popped := pop s
  plain (setZN popped.1 { popped.2 with a := popped.1 })

/-- `PHP` (R204): bits 5 and 4 forced to 1 on the pushed byte only. -/
def phpBody (s : State) : Executed := plain (push (packP s ||| 0x30#8) s)

/-- `PLP` (R205). -/
def plpBody (s : State) : Executed :=
  let popped := pop s
  plain (unpackP popped.1 popped.2)

/-- `CLC` (R206). -/
def clcBody (s : State) : Executed := plain { s with flagC := false }

/-- `SEC` (R207). -/
def secBody (s : State) : Executed := plain { s with flagC := true }

/-- `CLI` (R208): nothing follows from it, the core has no interrupt input (R233). -/
def cliBody (s : State) : Executed := plain { s with flagI := false }

/-- `SEI` (R209). -/
def seiBody (s : State) : Executed := plain { s with flagI := true }

/-- `CLD` (R210). -/
def cldBody (s : State) : Executed := plain { s with flagD := false }

/-- `SED` (R211): stored, with no effect on `ADC` or `SBC` (R151). -/
def sedBody (s : State) : Executed := plain { s with flagD := true }

/-- `CLV` (R212). -/
def clvBody (s : State) : Executed := plain { s with flagV := false }

/-- `NOP` (R213). -/
def nopBody (s : State) : Executed := plain s

/-- `BRK` (R214): takes the trap. -/
def brkBody (s : State) : Executed := plain (enterBreak s)

/-- `RTI` (R215): returns from it. -/
def rtiBody (s : State) : Executed := plain (returnFromBreak s)

/-- `PHA` implied, `48`, 3 cycles (R202, R96). -/
def execPha (s : State) : Host.Outcome State Fault Refusal :=
  complete 3 (resolveImp s) phaBody

/-- `PLA` implied, `68`, 4 cycles (R203, R96). -/
def execPla (s : State) : Host.Outcome State Fault Refusal :=
  complete 4 (resolveImp s) plaBody

/-- `PHP` implied, `08`, 3 cycles (R204, R96). -/
def execPhp (s : State) : Host.Outcome State Fault Refusal :=
  complete 3 (resolveImp s) phpBody

/-- `PLP` implied, `28`, 4 cycles (R205, R96). -/
def execPlp (s : State) : Host.Outcome State Fault Refusal :=
  complete 4 (resolveImp s) plpBody

/-- `CLC` implied, `18`, 2 cycles (R206, R96). -/
def execClc (s : State) : Host.Outcome State Fault Refusal :=
  complete 2 (resolveImp s) clcBody

/-- `SEC` implied, `38`, 2 cycles (R207, R96). -/
def execSec (s : State) : Host.Outcome State Fault Refusal :=
  complete 2 (resolveImp s) secBody

/-- `CLI` implied, `58`, 2 cycles (R208, R96). -/
def execCli (s : State) : Host.Outcome State Fault Refusal :=
  complete 2 (resolveImp s) cliBody

/-- `SEI` implied, `78`, 2 cycles (R209, R96). -/
def execSei (s : State) : Host.Outcome State Fault Refusal :=
  complete 2 (resolveImp s) seiBody

/-- `CLD` implied, `D8`, 2 cycles (R210, R96). -/
def execCld (s : State) : Host.Outcome State Fault Refusal :=
  complete 2 (resolveImp s) cldBody

/-- `SED` implied, `F8`, 2 cycles (R211, R96). -/
def execSed (s : State) : Host.Outcome State Fault Refusal :=
  complete 2 (resolveImp s) sedBody

/-- `CLV` implied, `B8`, 2 cycles (R212, R96). -/
def execClv (s : State) : Host.Outcome State Fault Refusal :=
  complete 2 (resolveImp s) clvBody

/-- `NOP` implied, `EA`, 2 cycles (R213, R96). -/
def execNop (s : State) : Host.Outcome State Fault Refusal :=
  complete 2 (resolveImp s) nopBody

/-- `BRK` implied, `00`, 7 cycles (R214, R96). -/
def execBrk (s : State) : Host.Outcome State Fault Refusal :=
  complete 7 (resolveImp s) brkBody

/-- `RTI` implied, `40`, 6 cycles (R215, R96). -/
def execRti (s : State) : Host.Outcome State Fault Refusal :=
  complete 6 (resolveImp s) rtiBody

end Sys2Proof.Machine
end

