-- ==== Sys2Proof/Machine/Dispatch.lean ====
section
/-!
DEFINITION. Resolve-address and Execute of one instruction, its operand bytes fetched and `pc` past them (log 11).
-/
namespace Sys2Proof.Machine

def exec (i : Instr) (s : State) : Host.Outcome State Fault Refusal :=
  match i with
  | .ldaImm operand => Sys2Proof.Machine.execLdaImm operand s
  | .ldaZp operand => Sys2Proof.Machine.execLdaZp operand s
  | .ldaZpx operand => Sys2Proof.Machine.execLdaZpx operand s
  | .ldaAbs operand => Sys2Proof.Machine.execLdaAbs operand s
  | .ldaAbx operand => Sys2Proof.Machine.execLdaAbx operand s
  | .ldaAby operand => Sys2Proof.Machine.execLdaAby operand s
  | .ldaIzx operand => Sys2Proof.Machine.execLdaIzx operand s
  | .ldaIzy operand => Sys2Proof.Machine.execLdaIzy operand s
  | .ldxImm operand => Sys2Proof.Machine.execLdxImm operand s
  | .ldxZp operand => Sys2Proof.Machine.execLdxZp operand s
  | .ldxZpy operand => Sys2Proof.Machine.execLdxZpy operand s
  | .ldxAbs operand => Sys2Proof.Machine.execLdxAbs operand s
  | .ldxAby operand => Sys2Proof.Machine.execLdxAby operand s
  | .ldyImm operand => Sys2Proof.Machine.execLdyImm operand s
  | .ldyZp operand => Sys2Proof.Machine.execLdyZp operand s
  | .ldyZpx operand => Sys2Proof.Machine.execLdyZpx operand s
  | .ldyAbs operand => Sys2Proof.Machine.execLdyAbs operand s
  | .ldyAbx operand => Sys2Proof.Machine.execLdyAbx operand s
  | .staZp operand => Sys2Proof.Machine.execStaZp operand s
  | .staZpx operand => Sys2Proof.Machine.execStaZpx operand s
  | .staAbs operand => Sys2Proof.Machine.execStaAbs operand s
  | .staAbx operand => Sys2Proof.Machine.execStaAbx operand s
  | .staAby operand => Sys2Proof.Machine.execStaAby operand s
  | .staIzx operand => Sys2Proof.Machine.execStaIzx operand s
  | .staIzy operand => Sys2Proof.Machine.execStaIzy operand s
  | .stxZp operand => Sys2Proof.Machine.execStxZp operand s
  | .stxZpy operand => Sys2Proof.Machine.execStxZpy operand s
  | .stxAbs operand => Sys2Proof.Machine.execStxAbs operand s
  | .styZp operand => Sys2Proof.Machine.execStyZp operand s
  | .styZpx operand => Sys2Proof.Machine.execStyZpx operand s
  | .styAbs operand => Sys2Proof.Machine.execStyAbs operand s
  | .tax => Sys2Proof.Machine.execTax s
  | .tay => Sys2Proof.Machine.execTay s
  | .tsx => Sys2Proof.Machine.execTsx s
  | .txa => Sys2Proof.Machine.execTxa s
  | .txs => Sys2Proof.Machine.execTxs s
  | .tya => Sys2Proof.Machine.execTya s
  | .adcImm operand => Sys2Proof.Machine.execAdcImm operand s
  | .adcZp operand => Sys2Proof.Machine.execAdcZp operand s
  | .adcZpx operand => Sys2Proof.Machine.execAdcZpx operand s
  | .adcAbs operand => Sys2Proof.Machine.execAdcAbs operand s
  | .adcAbx operand => Sys2Proof.Machine.execAdcAbx operand s
  | .adcAby operand => Sys2Proof.Machine.execAdcAby operand s
  | .adcIzx operand => Sys2Proof.Machine.execAdcIzx operand s
  | .adcIzy operand => Sys2Proof.Machine.execAdcIzy operand s
  | .sbcImm operand => Sys2Proof.Machine.execSbcImm operand s
  | .sbcZp operand => Sys2Proof.Machine.execSbcZp operand s
  | .sbcZpx operand => Sys2Proof.Machine.execSbcZpx operand s
  | .sbcAbs operand => Sys2Proof.Machine.execSbcAbs operand s
  | .sbcAbx operand => Sys2Proof.Machine.execSbcAbx operand s
  | .sbcAby operand => Sys2Proof.Machine.execSbcAby operand s
  | .sbcIzx operand => Sys2Proof.Machine.execSbcIzx operand s
  | .sbcIzy operand => Sys2Proof.Machine.execSbcIzy operand s
  | .andImm operand => Sys2Proof.Machine.execAndImm operand s
  | .andZp operand => Sys2Proof.Machine.execAndZp operand s
  | .andZpx operand => Sys2Proof.Machine.execAndZpx operand s
  | .andAbs operand => Sys2Proof.Machine.execAndAbs operand s
  | .andAbx operand => Sys2Proof.Machine.execAndAbx operand s
  | .andAby operand => Sys2Proof.Machine.execAndAby operand s
  | .andIzx operand => Sys2Proof.Machine.execAndIzx operand s
  | .andIzy operand => Sys2Proof.Machine.execAndIzy operand s
  | .oraImm operand => Sys2Proof.Machine.execOraImm operand s
  | .oraZp operand => Sys2Proof.Machine.execOraZp operand s
  | .oraZpx operand => Sys2Proof.Machine.execOraZpx operand s
  | .oraAbs operand => Sys2Proof.Machine.execOraAbs operand s
  | .oraAbx operand => Sys2Proof.Machine.execOraAbx operand s
  | .oraAby operand => Sys2Proof.Machine.execOraAby operand s
  | .oraIzx operand => Sys2Proof.Machine.execOraIzx operand s
  | .oraIzy operand => Sys2Proof.Machine.execOraIzy operand s
  | .eorImm operand => Sys2Proof.Machine.execEorImm operand s
  | .eorZp operand => Sys2Proof.Machine.execEorZp operand s
  | .eorZpx operand => Sys2Proof.Machine.execEorZpx operand s
  | .eorAbs operand => Sys2Proof.Machine.execEorAbs operand s
  | .eorAbx operand => Sys2Proof.Machine.execEorAbx operand s
  | .eorAby operand => Sys2Proof.Machine.execEorAby operand s
  | .eorIzx operand => Sys2Proof.Machine.execEorIzx operand s
  | .eorIzy operand => Sys2Proof.Machine.execEorIzy operand s
  | .bitZp operand => Sys2Proof.Machine.execBitZp operand s
  | .bitAbs operand => Sys2Proof.Machine.execBitAbs operand s
  | .cmpImm operand => Sys2Proof.Machine.execCmpImm operand s
  | .cmpZp operand => Sys2Proof.Machine.execCmpZp operand s
  | .cmpZpx operand => Sys2Proof.Machine.execCmpZpx operand s
  | .cmpAbs operand => Sys2Proof.Machine.execCmpAbs operand s
  | .cmpAbx operand => Sys2Proof.Machine.execCmpAbx operand s
  | .cmpAby operand => Sys2Proof.Machine.execCmpAby operand s
  | .cmpIzx operand => Sys2Proof.Machine.execCmpIzx operand s
  | .cmpIzy operand => Sys2Proof.Machine.execCmpIzy operand s
  | .cpxImm operand => Sys2Proof.Machine.execCpxImm operand s
  | .cpxZp operand => Sys2Proof.Machine.execCpxZp operand s
  | .cpxAbs operand => Sys2Proof.Machine.execCpxAbs operand s
  | .cpyImm operand => Sys2Proof.Machine.execCpyImm operand s
  | .cpyZp operand => Sys2Proof.Machine.execCpyZp operand s
  | .cpyAbs operand => Sys2Proof.Machine.execCpyAbs operand s
  | .aslAcc => Sys2Proof.Machine.execAslAcc s
  | .aslZp operand => Sys2Proof.Machine.execAslZp operand s
  | .aslZpx operand => Sys2Proof.Machine.execAslZpx operand s
  | .aslAbs operand => Sys2Proof.Machine.execAslAbs operand s
  | .aslAbx operand => Sys2Proof.Machine.execAslAbx operand s
  | .lsrAcc => Sys2Proof.Machine.execLsrAcc s
  | .lsrZp operand => Sys2Proof.Machine.execLsrZp operand s
  | .lsrZpx operand => Sys2Proof.Machine.execLsrZpx operand s
  | .lsrAbs operand => Sys2Proof.Machine.execLsrAbs operand s
  | .lsrAbx operand => Sys2Proof.Machine.execLsrAbx operand s
  | .rolAcc => Sys2Proof.Machine.execRolAcc s
  | .rolZp operand => Sys2Proof.Machine.execRolZp operand s
  | .rolZpx operand => Sys2Proof.Machine.execRolZpx operand s
  | .rolAbs operand => Sys2Proof.Machine.execRolAbs operand s
  | .rolAbx operand => Sys2Proof.Machine.execRolAbx operand s
  | .rorAcc => Sys2Proof.Machine.execRorAcc s
  | .rorZp operand => Sys2Proof.Machine.execRorZp operand s
  | .rorZpx operand => Sys2Proof.Machine.execRorZpx operand s
  | .rorAbs operand => Sys2Proof.Machine.execRorAbs operand s
  | .rorAbx operand => Sys2Proof.Machine.execRorAbx operand s
  | .incZp operand => Sys2Proof.Machine.execIncZp operand s
  | .incZpx operand => Sys2Proof.Machine.execIncZpx operand s
  | .incAbs operand => Sys2Proof.Machine.execIncAbs operand s
  | .incAbx operand => Sys2Proof.Machine.execIncAbx operand s
  | .decZp operand => Sys2Proof.Machine.execDecZp operand s
  | .decZpx operand => Sys2Proof.Machine.execDecZpx operand s
  | .decAbs operand => Sys2Proof.Machine.execDecAbs operand s
  | .decAbx operand => Sys2Proof.Machine.execDecAbx operand s
  | .inx => Sys2Proof.Machine.execInx s
  | .iny => Sys2Proof.Machine.execIny s
  | .dex => Sys2Proof.Machine.execDex s
  | .dey => Sys2Proof.Machine.execDey s
  | .bcc displacement => Sys2Proof.Machine.execBcc displacement s
  | .bcs displacement => Sys2Proof.Machine.execBcs displacement s
  | .beq displacement => Sys2Proof.Machine.execBeq displacement s
  | .bne displacement => Sys2Proof.Machine.execBne displacement s
  | .bmi displacement => Sys2Proof.Machine.execBmi displacement s
  | .bpl displacement => Sys2Proof.Machine.execBpl displacement s
  | .bvc displacement => Sys2Proof.Machine.execBvc displacement s
  | .bvs displacement => Sys2Proof.Machine.execBvs displacement s
  | .jmpAbs operand => Sys2Proof.Machine.execJmpAbs operand s
  | .jmpInd operand => Sys2Proof.Machine.execJmpInd operand s
  | .jsr operand => Sys2Proof.Machine.execJsr operand s
  | .rts => Sys2Proof.Machine.execRts s
  | .pha => Sys2Proof.Machine.execPha s
  | .pla => Sys2Proof.Machine.execPla s
  | .php => Sys2Proof.Machine.execPhp s
  | .plp => Sys2Proof.Machine.execPlp s
  | .clc => Sys2Proof.Machine.execClc s
  | .sec => Sys2Proof.Machine.execSec s
  | .cli => Sys2Proof.Machine.execCli s
  | .sei => Sys2Proof.Machine.execSei s
  | .cld => Sys2Proof.Machine.execCld s
  | .sed => Sys2Proof.Machine.execSed s
  | .clv => Sys2Proof.Machine.execClv s
  | .nop => Sys2Proof.Machine.execNop s
  | .brk => Sys2Proof.Machine.execBrk s
  | .rti => Sys2Proof.Machine.execRti s

end Sys2Proof.Machine
end

