-- ==== Sys2Proof/Machine/Fetch.lean ====
section
/-!
DEFINITION. Fetch and Decode: the opcode byte and the operand bytes are read at `pc`, one bus read each, and become an
instruction or the fault (40_step_and_addressing.md R90 to R92, R111; 60_exceptions.md R230).
-/
namespace Sys2Proof.Machine

/-- The operand bytes of a format, consumed in address order (30_encoding.md R72), and the instruction they make. -/
def fetchOperand (format : Format) (s : State) : Instr × State :=
  match format with
  | .f1 instr => (instr, s)
  | .f2 build =>
    let operand := fetch8 s
    (build operand.1, operand.2)
  | .f3 build =>
    let lo := fetch8 s
    let hi := fetch8 lo.2
    (build (joinBytes hi.1 lo.1), hi.2)

/-- Fetch and Decode at `pc`: the instruction, or the fault of an illegal byte, and the state after the bytes read. On
the fault that state is the one 60_exceptions.md R230 describes: `pc` past the opcode byte, nothing else changed. -/
def fetchInstr (s : State) : Except Fault Instr × State :=
  let opcode := fetch8 s
  match lookupOpcode opcode.1 with
  | none => (.error (.illegalOpcode opcode.1 s.pc), opcode.2)
  | some row =>
    let fetched := fetchOperand row.format opcode.2
    (.ok fetched.1, fetched.2)

/-- Place a list of bytes from an address on, modulo 65536, without a bus transaction (20_memory.md R58). -/
def pokeBytes (addr : Word) (bytes : List Byte) (s : State) : State :=
  match bytes with
  | [] => s
  | b :: rest => pokeBytes (addr + 1#16) rest (poke addr b s)

/-- Whether the bus holds a byte at each of the `n` addresses from `addr` on, modulo 65536. -/
def holdsBytes (s : State) (addr : Word) (n : Nat) : Bool :=
  match n with
  | 0 => true
  | n + 1 => (peek s addr).isSome && holdsBytes s (addr + 1#16) n

/-- `s` with plain RAM installed above `0x2000` if the bus does not hold the `n` bytes from `addr` on
(70_reset_and_hazards.md R264: "install a HighRegion device that holds them"; log 21). -/
def ensureHeld (addr : Word) (n : Nat) (s : State) : State :=
  if holdsBytes s addr n then s else { s with high := .flatRam }

end Sys2Proof.Machine
end

