-- ==== Sys2Proof/Machine/Step.lean ====
section
/-!
DEFINITION. One step: Fetch, Decode, Resolve-address, Execute (40_step_and_addressing.md R90), and the placing of one
instruction where the next step fetches.
-/
namespace Sys2Proof.Machine

/-- `Step()` (R90): the instruction fetched at `pc` is executed from the state after its bytes, or the step ends in the
fault of an illegal byte. -/
def step (s : State) : Host.Outcome State Fault Refusal :=
  match fetchInstr s with
  | (.ok i, fetched) => exec i fetched
  | (.error fault, _) => .fault fault

/-- `s` with the instruction whose table bits are `w` stored at `pc`, so that the next step runs it (log 21). -/
def State.withFetchWord (s : State) (nbits w : Nat) : State :=
  pokeBytes s.pc (tableBytes nbits w) (ensureHeld s.pc 3 s)

end Sys2Proof.Machine
end

