-- ==== Sys2Proof/Machine/HostInterface.lean ====
section
/-!
DEFINITION. What the host does to the machine between steps (00_scope.md R7, R8; 70_reset_and_hazards.md R260 to R263).
-/
namespace Sys2Proof.Machine

/-- `Reset(vector)` (R260): no bus transaction, memory and devices untouched (R263). The two latches and `temp` are
unspecified afterwards, so each takes a free value (10_state.md R35; log 2). -/
def hostReset (vector : Word) (s : State) : State :=
  { s with
    a := 0x00#8, x := 0x00#8, y := 0x00#8, sp := 0xFD#8, pc := vector,
    flagN := false, flagV := false, flagB := false, flagD := false, flagI := true, flagZ := false, flagC := false,
    cycles := 0,
    dataLatch := Config.freeByte s.draws, effectiveAddress := Config.freeWord s.draws,
    temp := Config.freeWord (s.draws + 1), draws := s.draws + 2 }

/-- Power-on is a Reset (R262), over the open parameters RamInit and HighRegion (00_scope.md R6). -/
def powerOn (vector : Word) (ramInit : Memory) (high : HighRegion) : State :=
  hostReset vector { State.reset with mem := ramInit, high := high }

/-- What the host may read between steps (00_scope.md R8). -/
structure HostView where
  a : Byte
  x : Byte
  y : Byte
  sp : Byte
  pc : Word
  status : Byte
  deriving DecidableEq, Repr

/-- The register and status accessors (00_scope.md R8, 10_state.md R21). -/
def hostView (s : State) : HostView := ⟨s.a, s.x, s.y, s.sp, s.pc, packP s⟩

/-- `Step()` as the host sees it (00_scope.md R7): the cost in cycles, or the fault, and the state the core is left in.
After the fault the core is as Fetch left it (60_exceptions.md R230); what the host does then is its own affair. -/
def hostStep (s : State) : Except Fault Nat × State :=
  match step s with
  | .next t => (.ok (t.cycles - s.cycles), t)
  | .fault fault => (.error fault, (fetchInstr s).2)
  | .refused _ => (.ok 0, s)

end Sys2Proof.Machine
end

