-- ==== Sys2Proof/Safety.lean ====
section
/-!
DEFINITION. What counts as a safe run, and the spec's own tables in the terms that claims use: who writes which
register and flag (10_state.md R10, R25), what a step costs (40_step_and_addressing.md R93, R94), what it puts on the
bus (R112), where it stores.
-/
namespace Sys2Proof.Machine

/-! ## Safe runs

A step is safe when it answers a next state: the fault is fatal and sticky (93_implementation_defined.md U1), and
Host.Core.run stops at it. -/

/-- The invariant of the machine between steps: the memory list is canonical, and `B = 0` (10_state.md R27). -/
abbrev State.Inv (s : State) : Prop := Memory.wf s.mem = true ∧ s.flagB = false

/-- Meanings run one after the other, without the fetches between them. -/
def execAll (program : List Instr) (s : State) : Host.Outcome State Fault Refusal :=
  match program with
  | [] => .next s
  | i :: rest =>
    match exec i s with
    | .next t => execAll rest t
    | .fault fault => .fault fault
    | .refused refusal => .refused refusal

/-! ## Memory as a claim reads it -/

/-- Two addresses name the same byte of the bus (20_memory.md R44, R47, R48). -/
abbrev SameByte (high : HighRegion) (p q : Word) : Prop := (cellOf high p).isSome ∧ cellOf high p = cellOf high q

/-- The bus holds these bytes from `addr` on, modulo 65536 (10_state.md R13). -/
def bytesAt (s : State) (addr : Word) (bytes : List Byte) : Bool :=
  match bytes with
  | [] => true
  | b :: rest => peek s addr == some b && bytesAt s (addr + 1#16) rest

/-- The state once these bytes have been fetched at `pc`: one read each, `pc` past them. -/
def afterFetch (bytes : List Byte) (s : State) : State :=
  match bytes with
  | [] => s
  | b :: rest => afterFetch rest { logTxn (.read s.pc b) s with pc := s.pc + 1#16 }

/-- What the bus answers to `n` fetches in a row at `pc`, whatever is attached there (40_step_and_addressing.md R91),
and the state after them. -/
def fetchBytes (n : Nat) (s : State) : List Byte × State :=
  match n with
  | 0 => ([], s)
  | n + 1 =>
    let first := fetch8 s
    let rest := fetchBytes n first.2
    (first.1 :: rest.1, rest.2)

/-- The addresses an instruction stores to, in the order of its stores: the effective address of a store or a memory
read-modify-write, the stack slots of a push (40_step_and_addressing.md R112). -/
def storedAddresses (i : Instr) (s : State) : List Word :=
  match i.mnemonic with
  | .sta | .stx | .sty | .inc | .dec => [(resolve i s).1.effectiveAddress]
  | .asl | .lsr | .rol | .ror => if i.mode = .acc then [] else [(resolve i s).1.effectiveAddress]
  | .pha | .php => [stackAddr s.sp]
  | .jsr => [stackAddr s.sp, stackAddr (s.sp - 1#8)]
  | .brk => [stackAddr s.sp, stackAddr (s.sp - 1#8), stackAddr (s.sp - 2#8)]
  | _ => []

/-- The address `0x0100 + sp` in page one, as a number (10_state.md R11). -/
def stackSlot (sp : Byte) : Word := BitVec.ofNat 16 (0x0100 + sp.toNat)

/-- Where a shift or rotate puts its result: the accumulator in Accumulator mode, memory at the effective address
otherwise (43_shift_incdec.md R160). -/
def wroteBack (i : Instr) (result : Byte) (r : State) : State :=
  if i.mode = .acc then { r with a := result } else memWrite r.effectiveAddress result r

/-! ## The spec's tables of writers -/

/-- "`a` ... written by" (10_state.md R10). -/
def writesA (i : Instr) : Bool :=
  i.mnemonic ∈ [.lda, .pla, .txa, .tya, .adc, .sbc, .and, .ora, .eor]
    || (i.mnemonic ∈ [.asl, .lsr, .rol, .ror] && i.mode == .acc)

/-- "`x` ... written by" (10_state.md R10). -/
def writesX (i : Instr) : Bool := i.mnemonic ∈ [.ldx, .tax, .tsx, .inx, .dex]

/-- "`y` ... written by" (10_state.md R10). -/
def writesY (i : Instr) : Bool := i.mnemonic ∈ [.ldy, .tay, .iny, .dey]

/-- The instructions that write `sp` (10_state.md R11). -/
def writesSp (i : Instr) : Bool := i.mnemonic ∈ [.txs, .pha, .php, .pla, .plp, .jsr, .rts, .brk, .rti]

/-- The instructions that may leave `pc` elsewhere than after themselves (10_state.md R13). -/
def writesPc (i : Instr) : Bool :=
  i.mnemonic ∈ [.bcc, .bcs, .beq, .bne, .bmi, .bpl, .bvc, .bvs, .jmp, .jsr, .rts, .rti, .brk]

/-- Column `N` of 10_state.md R25; column `Z` is the same. -/
def writesNZ (m : Mnemonic) : Bool :=
  m ∈ [.lda, .ldx, .ldy, .tax, .tay, .tsx, .txa, .tya, .pla, .and, .ora, .eor, .inc, .dec, .inx, .iny, .dex, .dey,
    .adc, .sbc, .cmp, .cpx, .cpy, .asl, .lsr, .rol, .ror, .bit, .plp, .rti]

/-- Column `V` of 10_state.md R25. -/
def writesV (m : Mnemonic) : Bool := m ∈ [.adc, .sbc, .bit, .clv, .plp, .rti]

/-- Column `B` of 10_state.md R25. -/
def writesB (m : Mnemonic) : Bool := m ∈ [.plp, .rti, .brk]

/-- Column `D` of 10_state.md R25. -/
def writesD (m : Mnemonic) : Bool := m ∈ [.cld, .sed, .plp, .rti]

/-- Column `I` of 10_state.md R25. -/
def writesI (m : Mnemonic) : Bool := m ∈ [.cli, .sei, .plp, .rti, .brk]

/-- Column `C` of 10_state.md R25. -/
def writesC (m : Mnemonic) : Bool :=
  m ∈ [.adc, .sbc, .cmp, .cpx, .cpy, .asl, .lsr, .rol, .ror, .clc, .sec, .plp, .rti]

/-! ## Cost -/

/-- The nine mnemonics with `instr_extra = 1` (40_step_and_addressing.md R94). -/
def takesPageCycle (m : Mnemonic) : Bool := m ∈ [.adc, .and, .cmp, .eor, .lda, .ldx, .ldy, .ora, .sbc]

/-- The condition of a branch (44_control_transfer.md R181 to R188); none for any other mnemonic. -/
def branchCondition (m : Mnemonic) (s : State) : Option Bool :=
  match m with
  | .bcc => some (!s.flagC)
  | .bcs => some s.flagC
  | .beq => some s.flagZ
  | .bne => some (!s.flagZ)
  | .bmi => some s.flagN
  | .bpl => some (!s.flagN)
  | .bvc => some (!s.flagV)
  | .bvs => some s.flagV
  | _ => none

/-- `branch_extra` (44_control_transfer.md R180): 0 for all but a taken branch. -/
def branchCycles (i : Instr) (s : State) : Nat :=
  if branchCondition i.mnemonic s = some true then
    if highByte (resolve i s).1.effectiveAddress = highByte s.pc then 1 else 2
  else 0

/-- The third element of an instruction's table entry (30_encoding.md R81). -/
def baseCyclesOf (i : Instr) : Nat := ((lookupOpcode i.opcode).map (·.baseCycles)).getD 0

/-- The cost of a step by the formula of 40_step_and_addressing.md R93. -/
def costOf (i : Instr) (s : State) : Nat :=
  baseCyclesOf i + ((resolve i s).2 && takesPageCycle i.mnemonic).toNat + branchCycles i s

/-- The classes of 70_reset_and_hazards.md R268. -/
def readsOperand (m : Mnemonic) : Bool :=
  m ∈ [.lda, .ldx, .ldy, .adc, .sbc, .and, .ora, .eor, .cmp, .cpx, .cpy, .bit]

/-- The stores. -/
def isStore (m : Mnemonic) : Bool := m ∈ [.sta, .stx, .sty]

/-- The read-modify-write instructions (00_scope.md section 8). -/
def isRmw (m : Mnemonic) : Bool := m ∈ [.asl, .lsr, .rol, .ror, .inc, .dec]

/-! ## Bus activity -/

/-- Whether a transaction is a write, and its address. -/
def txnShape : BusTxn → Bool × Word
  | .read addr _ => (false, addr)
  | .write addr _ => (true, addr)

/-- The addresses a resolver reads once the operand bytes are in, in order (40_step_and_addressing.md R112). -/
def resolverReads (i : Instr) (s : State) : List Word :=
  match i.mode with
  | .imp | .acc | .imm | .rel => []
  | .zp | .zpx | .zpy | .abs | .abx | .aby => [(resolve i s).1.effectiveAddress]
  | .ind => [i.operand.asWord, nextInPage i.operand.asWord]
  | .izx =>
    [zext16 (i.operand.asByte + s.x), zext16 (i.operand.asByte + s.x + 1#8), (resolve i s).1.effectiveAddress]
  | .izy => [zext16 i.operand.asByte, zext16 (i.operand.asByte + 1#8), (resolve i s).1.effectiveAddress]

/-- The instruction's own accesses, in order (40_step_and_addressing.md R112). -/
def ownAccesses (i : Instr) (s : State) : List (Bool × Word) :=
  (storedAddresses i s).map (fun addr => (true, addr)) ++
  match i.mnemonic with
  | .pla | .plp => [(false, stackAddr (s.sp + 1#8))]
  | .rts => [(false, stackAddr (s.sp + 1#8)), (false, stackAddr (s.sp + 2#8))]
  | .rti => [(false, stackAddr (s.sp + 1#8)), (false, stackAddr (s.sp + 2#8)), (false, stackAddr (s.sp + 3#8))]
  | .brk => [(false, Config.brkVectorLow), (false, Config.brkVectorHigh)]
  | _ => []

end Sys2Proof.Machine
end

