-- ==== Sys2Proof/Certificates/Slice0/Obligations.lean ====
section
/-!
DEFINITION. The statements about the model, one per definition, in the order of OBLIGATIONS.json. `r` is always the
state an instruction's resolver leaves, `t` the state its step answers.
-/

open Sys2Proof Sys2Proof.Machine

/-! ## Encoding (30_encoding.md) -/

/-- R70 to R74: decoding the encoding of any of the 151 instructions gives it back, operand for operand. -/
def Obligations.DecodeOfEncodeIsIdentity : Prop :=
  ∀ (i : Instr) (rest : List Byte), decode (encode i ++ rest) = .ok (i, rest)

/-- R74, R78: no two byte strings decode to one instruction; what is decoded is the instruction's encoding. -/
def Obligations.DecodedBytesAreTheEncoding : Prop :=
  ∀ (bytes rest : List Byte) (i : Instr), decode bytes = .ok (i, rest) → bytes = encode i ++ rest

/-- R70, R71, R77: the decoder accepts exactly the images that are well formed by the list of illegal bytes and the
operand counts of the map's columns. -/
def Obligations.DecoderAcceptsExactlyWellFormedImages : Prop :=
  ∀ bytes : List Byte, wellFormed bytes = true ↔ ∃ i, decode bytes = .ok (i, [])

/-- R74, R77: 151 legal bytes, 105 illegal ones, each listed illegal byte without an entry and refused by name. -/
def Obligations.IllegalBytesHaveNoTableEntry : Prop :=
  opcodeTable.length = 151 ∧ (opcodeTable.map (·.opcode)).Nodup ∧ illegalOpcodes.length = 105 ∧
    (∀ b : Byte, lookupOpcode b = none ↔ b ∈ illegalOpcodes) ∧
    ∀ b ∈ illegalOpcodes, ∀ rest, decode (b :: rest) = .error (.illegalOpcode b)

/-- R75, R76, R81: the entry at an instruction's opcode has its mnemonic, its mode, and a base count from 2 to 7. -/
def Obligations.TableEntryMatchesInstruction : Prop :=
  ∀ i : Instr, ∃ row, lookupOpcode i.opcode = some row ∧ row.opcode = i.opcode ∧ row.mnemonic = i.mnemonic ∧
    row.mode = i.mode ∧ 2 ≤ row.baseCycles ∧ row.baseCycles ≤ 7

/-- R79: the byte strings of the spec's own table of examples, one per mode, and of its four-instruction scenario. -/
def Obligations.SpecExampleBytesDecode : Prop :=
  decode [0x18] = .ok (.clc, []) ∧ decode [0x0A] = .ok (.aslAcc, []) ∧ decode [0xA9, 0x05] = .ok (.ldaImm 0x05, []) ∧
    decode [0xA5, 0x10] = .ok (.ldaZp 0x10, []) ∧ decode [0xB5, 0x10] = .ok (.ldaZpx 0x10, []) ∧
    decode [0xB6, 0x10] = .ok (.ldxZpy 0x10, []) ∧ decode [0x8D, 0x10, 0x00] = .ok (.staAbs 0x0010, []) ∧
    decode [0xBD, 0x34, 0x12] = .ok (.ldaAbx 0x1234, []) ∧ decode [0xB9, 0x34, 0x12] = .ok (.ldaAby 0x1234, []) ∧
    decode [0x6C, 0xFF, 0x30] = .ok (.jmpInd 0x30FF, []) ∧ decode [0xA1, 0x20] = .ok (.ldaIzx 0x20, []) ∧
    decode [0xB1, 0x20] = .ok (.ldaIzy 0x20, []) ∧ decode [0xD0, 0x03] = .ok (.bne 0x03, []) ∧
    decode [0x6D, 0x10, 0x00] = .ok (.adcAbs 0x0010, [])

/-! ## Status byte and reset (10_state.md, 70_reset_and_hazards.md) -/

/-- R21, R26: the status byte as a number, what the host's accessor returns, and its value after any Reset. Unpacking a
byte sets the six flags to its bits 7 6 3 2 1 0 and clears `B`; bits 5 and 4 are ignored and nothing else changes. -/
def Obligations.StatusByteIsPackedFlags : Prop :=
  ((∀ s : State, (packP s).toNat = 128 * s.flagN.toNat + 64 * s.flagV.toNat + 32 + 16 * s.flagB.toNat +
      8 * s.flagD.toNat + 4 * s.flagI.toNat + 2 * s.flagZ.toNat + s.flagC.toNat) ∧
    (∀ s : State, (hostView s).status = packP s) ∧
    ∀ (vector : Word) (s : State), packP (hostReset vector s) = 0x24#8) ∧
  (∀ (v w : Byte) (s : State),
    packP (unpackP v s) = (v &&& 0xCF#8) ||| 0x20#8 ∧
      (v &&& 0xCF#8 = w &&& 0xCF#8 → unpackP v s = unpackP w s) ∧
      unpackP v s = { s with
        flagN := v.getLsbD 7, flagV := v.getLsbD 6, flagD := v.getLsbD 3, flagI := v.getLsbD 2,
        flagZ := v.getLsbD 1, flagC := v.getLsbD 0, flagB := false })

/-- R260, R263: what the Reset transaction leaves, from any state; no bus transaction, memory and HighRegion kept. -/
def Obligations.ResetTransactionState : Prop :=
  ∀ (vector : Word) (s : State), let t := hostReset vector s
    t.a = 0 ∧ t.x = 0 ∧ t.y = 0 ∧ t.sp = 0xFD#8 ∧ t.pc = vector ∧
      t.flagN = false ∧ t.flagV = false ∧ t.flagB = false ∧ t.flagD = false ∧ t.flagI = true ∧ t.flagZ = false ∧
      t.flagC = false ∧ t.cycles = 0 ∧ t.mem = s.mem ∧ t.high = s.high ∧ t.busLog = s.busLog

/-- R35, R262: State.reset is a Reset with vector `0x0200` but for the unspecified latches, which the model sets to
zero there. The vector, the zeros, the empty memory, the open bus and the model's own two fields are the model's choices
(logs 1 to 4, 7, 8). A power-on takes the three open parameters. -/
def Obligations.ResetStateIsAReset : Prop :=
  (∃ s d e w n, State.reset =
      { hostReset 0x0200#16 s with dataLatch := d, effectiveAddress := e, temp := w, draws := n }) ∧
    ∀ (vector : Word) (ram : Memory) (high : HighRegion), let t := powerOn vector ram high
      t.pc = vector ∧ t.mem = ram ∧ t.high = high ∧ t.sp = 0xFD#8 ∧ t.busLog = [] ∧ packP t = 0x24#8

/-! ## The bus (20_memory.md) -/

/-- R44, R45: RefBus below `0x2000`. A read answers the RAM byte at the address modulo 2048 and changes nothing (but
the model's own record of it); a write stores there, and any later low read sees it exactly at the same byte. -/
def Obligations.RamReadReturnsLastWrite : Prop :=
  ∀ (s : State) (p q : Word) (v : Byte), p.toNat < 0x2000 → q.toNat < 0x2000 →
    memRead p s = (Memory.read s.mem (p.toNat % 2048),
      { s with busLog := .read p (Memory.read s.mem (p.toNat % 2048)) :: s.busLog }) ∧
    memWrite p v s = { s with mem := Memory.write s.mem (p.toNat % 2048) v, busLog := .write p v :: s.busLog } ∧
    (memRead q (memWrite p v s)).1 = if q.toNat % 2048 = p.toNat % 2048 then v else (memRead q s).1

/-- R48, R56: the four aliases of a RAM byte are one byte: a write through one is seen by a read and by an instruction
fetch through any other. -/
def Obligations.RamAliasesNameOneByte : Prop :=
  ∀ (s : State) (base : Word) (j k : Fin 4) (v : Byte), base.toNat < 0x0800 →
    let p := base + BitVec.ofNat 16 (0x0800 * j.val)
    let q := base + BitVec.ofNat 16 (0x0800 * k.val)
    peek s p = peek s q ∧ peek (memWrite p v s) q = some v ∧ (memRead q (memWrite p v s)).1 = v ∧
      (fetch8 { memWrite p v s with pc := q }).1 = v

/-- R46, R236: with no device installed a read above `0x1FFF` is a fresh free value (log 5) and a write changes nothing;
so a `BRK` goes on at an address made of two of them. The counter `draws` that keeps the values apart is the model's own
(log 7). -/
def Obligations.OpenBusReadIsAFreeValue : Prop :=
  (∀ (s : State) (p : Word) (v : Byte), s.high = .openBus → 0x2000 ≤ p.toNat →
    memRead p s = (Config.freeByte s.draws,
      { s with draws := s.draws + 1, busLog := .read p (Config.freeByte s.draws) :: s.busLog }) ∧
    memWrite p v s = { s with busLog := .write p v :: s.busLog }) ∧
  ∀ s : State, s.high = .openBus → ∃ t, exec .brk s = .next t ∧
    t.pc.toNat = (Config.freeByte (s.draws + 1)).toNat * 256 + (Config.freeByte s.draws).toNat

/-- R47: FlatBus is plain RAM above `0x1FFF`, without mirroring and without side effects. A read answers the byte held at
that very address and changes nothing (but the model's own record of it); a write stores there and changes nothing else,
and any later read, high or low, sees it at exactly that address. -/
def Obligations.FlatBusIsPlainRam : Prop :=
  ∀ (s : State) (p q : Word) (v : Byte), s.high = .flatRam → 0x2000 ≤ p.toNat →
    memRead p s = (Memory.read s.mem p.toNat,
      { s with busLog := .read p (Memory.read s.mem p.toNat) :: s.busLog }) ∧
    peek s p = some (memRead p s).1 ∧
    memWrite p v s = { s with mem := Memory.write s.mem p.toNat v, busLog := .write p v :: s.busLog } ∧
    peek (memWrite p v s) q = (if q = p then some v else peek s q) ∧
    (memRead q (memWrite p v s)).1 = if q = p then v else (memRead q s).1

/-- R46, R53: a device answers from the transactions in its own region, oldest to newest, and RAM transactions do not
reach it. That its state is that history is the model's choice (log 6). -/
def Obligations.DeviceAnswersFromItsOwnTransactions : Prop :=
  ∀ (s : State) (p q : Word) (v : Byte), s.high = .device → 0x2000 ≤ p.toNat → q.toNat < 0x2000 →
    (memRead p s).1 = Config.deviceRead (s.busLog.filter inHighRegion) p ∧
      (memRead p (memRead q s).2).1 = (memRead p s).1 ∧ (memRead p (memWrite q v s)).1 = (memRead p s).1 ∧
      (memRead p s).2.mem = s.mem ∧ (memWrite p v s).mem = s.mem ∧
      (memWrite p v s).busLog.filter inHighRegion = .write p v :: s.busLog.filter inHighRegion

/-- R112: what an instruction puts on the bus once its bytes are fetched: its resolver's reads, then its own accesses,
in the order of the spec's two tables, and nothing else. -/
def Obligations.BusActivityOfAnInstruction : Prop :=
  ∀ (i : Instr) (s : State), ∃ t new, exec i s = .next t ∧ t.busLog = new ++ s.busLog ∧
    new.reverse.map txnShape = (resolverReads i s).map (fun addr => (false, addr)) ++ ownAccesses i s

/-! ## The step (40_step_and_addressing.md, 60_exceptions.md) -/

/-- R90, R91, R92, R111: where the bytes that the bus answers to the fetches decode to `i`, from RAM, the open bus or a
device, a step is `exec i` from the state with those bytes read and `pc` past them; a legal first byte always comes to
that. Where the bus holds the bytes, they are the ones fetched. That the operand bytes are read before exec is DEDUCED
(log 11). -/
def Obligations.StepRunsTheDecodedInstruction : Prop :=
  (∀ (n : Nat) (i : Instr) (s : State), let fetched := fetchBytes n s
    decode fetched.1 = .ok (i, []) →
      step s = exec i fetched.2 ∧ n = 1 + i.mode.operandBytes ∧
      fetched.2 = { s with
        pc := s.pc + BitVec.ofNat 16 n, draws := fetched.2.draws,
        busLog := (fetched.1.mapIdx fun k b => BusTxn.read (s.pc + BitVec.ofNat 16 k) b).reverse ++ s.busLog }) ∧
  (∀ s : State, (memRead s.pc s).1 ∉ illegalOpcodes → ∃ n i, decode (fetchBytes n s).1 = .ok (i, [])) ∧
  ∀ (bytes : List Byte) (i : Instr) (s : State), decode bytes = .ok (i, []) → bytesAt s s.pc bytes = true →
    fetchBytes bytes.length s = (bytes, afterFetch bytes s) ∧ step s = exec i (afterFetch bytes s) ∧
      (afterFetch bytes s).pc = s.pc + BitVec.ofNat 16 (1 + i.mode.operandBytes)

/-- R230: an illegal byte fetched as an opcode, from wherever `pc` points, is the fault with that byte and its address;
`pc` has advanced by one and nothing else has changed (but the model's record of the fetch). -/
def Obligations.IllegalOpcodeIsTheFault : Prop :=
  ∀ s : State, (memRead s.pc s).1 ∈ illegalOpcodes →
    let fault := Fault.illegalOpcode (memRead s.pc s).1 s.pc
    step s = .fault fault ∧ hostStep s = (.error fault, { (memRead s.pc s).2 with pc := s.pc + 1#16 }) ∧
      (s.pc.toNat < 0x2000 → hostStep s = (.error fault,
        { s with pc := s.pc + 1#16, busLog := .read s.pc (memRead s.pc s).1 :: s.busLog }))

/-- R113, R232: a step answers a next state or the one fault, which names an illegal byte and the address in `pc`. -/
def Obligations.StepStopsOnlyOnIllegalOpcode : Prop :=
  ∀ s : State, (∃ t, step s = .next t) ∨
    ∃ b, b ∈ illegalOpcodes ∧ (memRead s.pc s).1 = b ∧ step s = .fault (.illegalOpcode b s.pc)

/-- R93, R9, R113: every one of the 151 instructions answers a next state from every state, and its cost is the base
count, plus one for an eligible mnemonic in a page-crossing mode that crossed, plus one or two for a taken branch. R7,
R90: that cost is what the host's Step returns for the instruction fetched, and what it adds to `cycles` (that the
returned number is the difference of `cycles` is DEDUCED, log 13; what exec starts from, log 11). -/
def Obligations.EveryInstructionCompletesAtItsCost : Prop :=
  (∀ (i : Instr) (s : State), ∃ t, exec i s = .next t ∧ t.cycles = s.cycles + costOf i s ∧
    2 ≤ costOf i s ∧ costOf i s ≤ 8 ∧
    (costOf i s = baseCyclesOf i ∨
      (takesPageCycle i.mnemonic = true ∧ i.mode ∈ [.abx, .aby, .izy] ∧ (resolve i s).2 = true ∧
        costOf i s = baseCyclesOf i + 1) ∨
      (branchCondition i.mnemonic s = some true ∧
        (costOf i s = baseCyclesOf i + 1 ∨ costOf i s = baseCyclesOf i + 2)))) ∧
  ∀ (n : Nat) (i : Instr) (s : State), let fetched := fetchBytes n s
    decode fetched.1 = .ok (i, []) →
      ∃ t, step s = .next t ∧ hostStep s = (.ok (costOf i fetched.2), t) ∧
        t.cycles = s.cycles + costOf i fetched.2

/-- R268: the summary of costs, class by class; `cross` is the resolver's page-cross flag. -/
def Obligations.CostsPerClass : Prop :=
  ∀ (i : Instr) (s : State), let cross := (resolve i s).2.toNat
    (i.mode ∈ [.imm, .acc] → costOf i s = 2) ∧
    (i.mode = .imp → i.mnemonic ∉ [.pha, .php, .pla, .plp, .rts, .rti, .brk] → costOf i s = 2) ∧
    (i.mnemonic ∈ [.pha, .php] → costOf i s = 3) ∧ (i.mnemonic ∈ [.pla, .plp] → costOf i s = 4) ∧
    (readsOperand i.mnemonic = true →
      (i.mode = .zp → costOf i s = 3) ∧ (i.mode ∈ [.zpx, .zpy] → costOf i s = 4) ∧ (i.mode = .abs → costOf i s = 4) ∧
      (i.mode ∈ [.abx, .aby] → costOf i s = 4 + cross) ∧ (i.mode = .izx → costOf i s = 6) ∧
      (i.mode = .izy → costOf i s = 5 + cross)) ∧
    (isStore i.mnemonic = true →
      (i.mode = .zp → costOf i s = 3) ∧ (i.mode ∈ [.zpx, .zpy] → costOf i s = 4) ∧ (i.mode = .abs → costOf i s = 4) ∧
      (i.mode ∈ [.abx, .aby] → costOf i s = 5) ∧ (i.mode ∈ [.izx, .izy] → costOf i s = 6)) ∧
    (isRmw i.mnemonic = true →
      (i.mode = .zp → costOf i s = 5) ∧ (i.mode = .zpx → costOf i s = 6) ∧ (i.mode = .abs → costOf i s = 6) ∧
      (i.mode = .abx → costOf i s = 7)) ∧
    (i.mode = .rel → costOf i s = 2 + branchCycles i s) ∧
    (i.mnemonic = .jmp → costOf i s = if i.mode = .abs then 3 else 5) ∧
    (i.mnemonic ∈ [.jsr, .rts, .rti] → costOf i s = 6) ∧ (i.mnemonic = .brk → costOf i s = 7)

/-! ## Invariants and frames -/

/-- R27, R58: the invariant holds at State.reset and after a Reset of any state whose memory is canonical. -/
def Obligations.InvariantHoldsAfterReset : Prop :=
  State.reset.Inv ∧
    ∀ (vector : Word) (s : State), Memory.wf s.mem = true → (hostReset vector s).Inv

/-- R27, R33: from every state that meets it, reachable or not, a step answers a state that meets the invariant: the
memory keeps its canonical form and `B = 0`. -/
def Obligations.StepKeepsTheInvariant : Prop :=
  ∀ s t : State, s.Inv → step s = .next t → t.Inv

/-- R27: between steps the status byte has bit 4 clear and bit 5 set; the bytes `PHP` and `BRK` push have both set. -/
def Obligations.BreakBitOnlyOnTheStack : Prop :=
  (∀ s t : State, s.flagB = false → step s = .next t →
      t.flagB = false ∧ (packP t).getLsbD 4 = false ∧ (packP t).getLsbD 5 = true) ∧
    (∀ s : State, ∃ t p, exec .php s = .next t ∧ peek t (stackSlot s.sp) = some p ∧ p.getLsbD 4 = true ∧
      p.getLsbD 5 = true) ∧
    ∀ s : State, ∃ t p, exec .brk s = .next t ∧ peek t (stackSlot (s.sp - 2#8)) = some p ∧ p.getLsbD 4 = true ∧
      p.getLsbD 5 = true

/-- R95, R28, R29: a resolver writes its latches (and the model's record of its reads) and nothing else; a latch its
mode does not mention keeps its value; only Absolute,X, Absolute,Y and Indirect Indexed can report a page crossing. -/
def Obligations.ResolversWriteOnlyTheLatches : Prop :=
  ∀ (i : Instr) (s : State), let r := (resolve i s).1
    r = { s with
      dataLatch := r.dataLatch, effectiveAddress := r.effectiveAddress, draws := r.draws, busLog := r.busLog } ∧
    (i.mode ∈ [.imp, .acc, .imm] → r.effectiveAddress = s.effectiveAddress) ∧
    (i.mode ∈ [.ind, .rel] → r.dataLatch = s.dataLatch) ∧
    ((resolve i s).2 = true → i.mode ∈ [.abx, .aby, .izy])

/-- R10, R11: an instruction leaves every register alone that the spec's lists do not say it writes. -/
def Obligations.RegistersChangeOnlyWhereListed : Prop :=
  ∀ (i : Instr) (s : State), ∃ t, exec i s = .next t ∧
    (writesA i = false → t.a = s.a) ∧ (writesX i = false → t.x = s.x) ∧ (writesY i = false → t.y = s.y) ∧
    (writesSp i = false → t.sp = s.sp)

/-- R25: an instruction leaves every flag alone whose column of the spec's table it is not in; where the table gives a
constant, the flag has that constant. -/
def Obligations.FlagsChangeOnlyWhereListed : Prop :=
  ∀ (i : Instr) (s : State), ∃ t, exec i s = .next t ∧
    (writesNZ i.mnemonic = false → t.flagN = s.flagN ∧ t.flagZ = s.flagZ) ∧
    (writesV i.mnemonic = false → t.flagV = s.flagV) ∧ (writesB i.mnemonic = false → t.flagB = s.flagB) ∧
    (writesD i.mnemonic = false → t.flagD = s.flagD) ∧ (writesI i.mnemonic = false → t.flagI = s.flagI) ∧
    (writesC i.mnemonic = false → t.flagC = s.flagC) ∧
    (i.mnemonic ∈ [.plp, .rti, .brk] → t.flagB = false) ∧
    (i.mnemonic = .clc → t.flagC = false) ∧ (i.mnemonic = .sec → t.flagC = true) ∧
    (i.mnemonic = .cli → t.flagI = false) ∧ (i.mnemonic ∈ [.sei, .brk] → t.flagI = true) ∧
    (i.mnemonic = .cld → t.flagD = false) ∧ (i.mnemonic = .sed → t.flagD = true) ∧
    (i.mnemonic = .clv → t.flagV = false)

/-- R41, R45, R112: every byte of memory reads as before, but for the bytes at the addresses the instruction stores to
(and their RAM aliases, which are the same bytes). What is attached above `0x1FFF` stays attached; that it is a field no
step writes is the model's choice (log 4). -/
def Obligations.MemoryChangesOnlyWhereStored : Prop :=
  ∀ (i : Instr) (s : State), ∃ t, exec i s = .next t ∧ t.high = s.high ∧
    ∀ addr : Word, (∀ stored ∈ storedAddresses i s, ¬ SameByte s.high stored addr) → peek t addr = peek s addr

/-- R13, R91, R111: an instruction that is no branch, jump, call, return or `BRK`, fetched from wherever `pc` points, RAM,
the open bus or a device, leaves `pc` past its own bytes, modulo 65536. -/
def Obligations.StraightLineAdvancesPc : Prop :=
  ∀ (n : Nat) (i : Instr) (s : State), writesPc i = false → decode (fetchBytes n s).1 = .ok (i, []) →
    ∃ t, step s = .next t ∧ t.pc.toNat = (s.pc.toNat + 1 + i.mode.operandBytes) % 65536

/-- R110: Execute writes neither latch; after a step they hold what the resolver left. -/
def Obligations.LatchesHoldWhatTheResolverLeft : Prop :=
  ∀ (i : Instr) (s : State), ∃ t, exec i s = .next t ∧ t.dataLatch = (resolve i s).1.dataLatch ∧
    t.effectiveAddress = (resolve i s).1.effectiveAddress

/-- R35, R28, R29, R112: no result depends on what the latches held before the step, so their unspecified values after
Reset do not matter. -/
def Obligations.LatchesBeforeAStepDoNotMatter : Prop :=
  ∀ (i : Instr) (s : State) (d : Byte) (e : Word), ∃ t u, exec i s = .next t ∧
    exec i { s with dataLatch := d, effectiveAddress := e } = .next u ∧
    { u with dataLatch := t.dataLatch, effectiveAddress := t.effectiveAddress } = t

/-- R30, R31: no instruction reads `temp` or `cycles`: the cost is added to whatever the counter held, and everything
else is the same. -/
def Obligations.TempAndCyclesAreNeverRead : Prop :=
  ∀ (i : Instr) (s : State) (w : Word) (n : Nat), ∃ t, exec i s = .next t ∧
    exec i { s with temp := w, cycles := n } = .next { t with cycles := n + costOf i s }

/-- R17, R18, R151, R234: `I` and `D` are storage: but for `PHP` and `BRK`, which push them, no instruction's effect
depends on either, arithmetic included. -/
def Obligations.InterruptAndDecimalFlagsAreStorageOnly : Prop :=
  ∀ (i : Instr) (s : State) (bi bd : Bool), i.mnemonic ∉ [.php, .brk] → ∃ t, exec i s = .next t ∧
    exec i { s with flagI := bi, flagD := bd } = .next { t with
      flagI := if writesI i.mnemonic then t.flagI else bi, flagD := if writesD i.mnemonic then t.flagD else bd }

/-! ## Addressing modes (40_step_and_addressing.md) -/

/-- R96, R97, R98, R108: Implied and Accumulator latch `a`, Immediate latches the operand; Relative adds the signed
displacement to `pc`, already past the operand, modulo 65536. None of the four reads the bus. -/
def Obligations.ModesWithoutADataRead : Prop :=
  (∀ (i : Instr) (s : State),
    (i.mode ∈ [.imp, .acc] → resolve i s = ({ s with dataLatch := s.a }, false)) ∧
    (i.mode = .imm → resolve i s = ({ s with dataLatch := i.operand.asByte }, false))) ∧
  (∀ (i : Instr) (s : State), i.mode = .rel → let r := (resolve i s).1
    (r.effectiveAddress.toNat : Int) = ((s.pc.toNat : Int) + i.operand.asByte.toInt) % 65536 ∧
      r.dataLatch = s.dataLatch ∧ (resolve i s).2 = false ∧ r.busLog = s.busLog)

/-- R99, R100, R101, R109: the zero-page modes wrap inside page zero, read the byte there, never report a crossing. -/
def Obligations.ZeroPageModesWrapInPageZero : Prop :=
  ∀ (i : Instr) (s : State), let r := (resolve i s).1; let op := i.operand.asByte.toNat
    (i.mode = .zp → r.effectiveAddress.toNat = op) ∧
    (i.mode = .zpx → r.effectiveAddress.toNat = (op + s.x.toNat) % 256) ∧
    (i.mode = .zpy → r.effectiveAddress.toNat = (op + s.y.toNat) % 256) ∧
    (i.mode ∈ [.zp, .zpx, .zpy] →
      peek s r.effectiveAddress = some r.dataLatch ∧ (resolve i s).2 = false ∧
        r.busLog = .read r.effectiveAddress r.dataLatch :: s.busLog)

/-- R102, R103, R104, R109: the absolute modes wrap modulo 65536, latch what a read of the address answers, and the
indexed two report whether the page changed. -/
def Obligations.AbsoluteModesAddTheIndex : Prop :=
  ∀ (i : Instr) (s : State), let r := (resolve i s).1; let op := i.operand.asWord.toNat
    (i.mode = .abs → r.effectiveAddress.toNat = op ∧ (resolve i s).2 = false) ∧
    (i.mode = .abx → r.effectiveAddress.toNat = (op + s.x.toNat) % 65536 ∧
      (resolve i s).2 = decide (r.effectiveAddress.toNat / 256 ≠ op / 256)) ∧
    (i.mode = .aby → r.effectiveAddress.toNat = (op + s.y.toNat) % 65536 ∧
      (resolve i s).2 = decide (r.effectiveAddress.toNat / 256 ≠ op / 256)) ∧
    (i.mode ∈ [.abs, .abx, .aby] → r.dataLatch = (memRead r.effectiveAddress s).1 ∧
      r.busLog = .read r.effectiveAddress r.dataLatch :: s.busLog)

/-- R105: Indirect reads the target's low byte at the pointer and its high byte at the next address of the same page,
without a carry into the pointer's high byte. -/
def Obligations.IndirectPointerStaysInItsPage : Prop :=
  ∀ (i : Instr) (s : State), i.mode = .ind →
    let r := (resolve i s).1; let p := i.operand.asWord
    let q := BitVec.ofNat 16 (p.toNat / 256 * 256 + (p.toNat + 1) % 256)
    let low := memRead p s; let high := memRead q low.2
    r.effectiveAddress.toNat = high.1.toNat * 256 + low.1.toNat ∧ r.dataLatch = s.dataLatch ∧
      (resolve i s).2 = false ∧ r.busLog = .read q high.1 :: .read p low.1 :: s.busLog

/-- R106, R107, R109: Indexed Indirect (X): index and pointer wrap inside page zero, never a crossing. Indirect Indexed
(Y): the pointer wraps inside page zero, the sum modulo 65536, and the flag says whether the page of the base changed. -/
def Obligations.IndirectPointersWrapInPageZero : Prop :=
  (∀ (i : Instr) (s : State), i.mode = .izx → let r := (resolve i s).1; let op := i.operand.asByte.toNat
    let low := BitVec.ofNat 16 ((op + s.x.toNat) % 256); let high := BitVec.ofNat 16 ((op + s.x.toNat + 1) % 256)
    (∃ lo hi, peek s low = some lo ∧ peek s high = some hi ∧ r.effectiveAddress.toNat = hi.toNat * 256 + lo.toNat ∧
      r.busLog = .read r.effectiveAddress r.dataLatch :: .read high hi :: .read low lo :: s.busLog) ∧
    r.dataLatch = (memRead r.effectiveAddress s).1 ∧ (resolve i s).2 = false) ∧
  (∀ (i : Instr) (s : State), i.mode = .izy → let r := (resolve i s).1; let op := i.operand.asByte.toNat
    let low := BitVec.ofNat 16 op; let high := BitVec.ofNat 16 ((op + 1) % 256)
    (∃ lo hi base, peek s low = some lo ∧ peek s high = some hi ∧ base = hi.toNat * 256 + lo.toNat ∧
      r.effectiveAddress.toNat = (base + s.y.toNat) % 65536 ∧
      (resolve i s).2 = decide (r.effectiveAddress.toNat / 256 ≠ base / 256) ∧
      r.busLog = .read r.effectiveAddress r.dataLatch :: .read high hi :: .read low lo :: s.busLog) ∧
    r.dataLatch = (memRead r.effectiveAddress s).1)

/-! ## Loads, stores, transfers (41_load_store_transfer.md) -/

/-- R120, R121, R122: the loads, in every form the spec gives them. -/
def Obligations.LoadsCopyTheOperand : Prop :=
  (∀ (i : Instr) (s : State), let r := (resolve i s).1; let v := r.dataLatch
    (i.mnemonic = .lda → exec i s = .next (retire (costOf i s)
      { r with a := v, flagZ := decide (v.toNat = 0), flagN := decide (128 ≤ v.toNat) })) ∧
    (i.mnemonic = .ldx → exec i s = .next (retire (costOf i s)
      { r with x := v, flagZ := decide (v.toNat = 0), flagN := decide (128 ≤ v.toNat) })) ∧
    (i.mnemonic = .ldy → exec i s = .next (retire (costOf i s)
      { r with y := v, flagZ := decide (v.toNat = 0), flagN := decide (128 ≤ v.toNat) }))) ∧
  formsOf .lda = [(0xA1, .izx), (0xA5, .zp), (0xA9, .imm), (0xAD, .abs), (0xB1, .izy), (0xB5, .zpx),
    (0xB9, .aby), (0xBD, .abx)] ∧
  formsOf .ldx = [(0xA2, .imm), (0xA6, .zp), (0xAE, .abs), (0xB6, .zpy), (0xBE, .aby)] ∧
  formsOf .ldy = [(0xA0, .imm), (0xA4, .zp), (0xAC, .abs), (0xB4, .zpx), (0xBC, .abx)]

/-- R123, R124, R125: the stores, in every form: one write of the register at the effective address, which then reads
so wherever the bus holds a byte there. -/
def Obligations.StoresWriteTheRegister : Prop :=
  (∀ (i : Instr) (s : State), let r := (resolve i s).1; let p := r.effectiveAddress
    (i.mnemonic = .sta → exec i s = .next (retire (costOf i s) (memWrite p s.a r)) ∧
      ((peek s p).isSome → peek (memWrite p s.a r) p = some s.a)) ∧
    (i.mnemonic = .stx → exec i s = .next (retire (costOf i s) (memWrite p s.x r)) ∧
      ((peek s p).isSome → peek (memWrite p s.x r) p = some s.x)) ∧
    (i.mnemonic = .sty → exec i s = .next (retire (costOf i s) (memWrite p s.y r)) ∧
      ((peek s p).isSome → peek (memWrite p s.y r) p = some s.y))) ∧
  formsOf .sta = [(0x81, .izx), (0x85, .zp), (0x8D, .abs), (0x91, .izy), (0x95, .zpx), (0x99, .aby), (0x9D, .abx)] ∧
  formsOf .stx = [(0x86, .zp), (0x8E, .abs), (0x96, .zpy)] ∧
  formsOf .sty = [(0x84, .zp), (0x8C, .abs), (0x94, .zpx)]

/-- R126 to R131: the six transfers; `TXS` alone sets no flag. -/
def Obligations.TransfersMoveOneRegister : Prop :=
  ∀ s : State,
    exec .tax s = .next (retire 2 { s with
      dataLatch := s.a, x := s.a, flagZ := decide (s.a.toNat = 0), flagN := decide (128 ≤ s.a.toNat) }) ∧
    exec .tay s = .next (retire 2 { s with
      dataLatch := s.a, y := s.a, flagZ := decide (s.a.toNat = 0), flagN := decide (128 ≤ s.a.toNat) }) ∧
    exec .tsx s = .next (retire 2 { s with
      dataLatch := s.a, x := s.sp, flagZ := decide (s.sp.toNat = 0), flagN := decide (128 ≤ s.sp.toNat) }) ∧
    exec .txa s = .next (retire 2 { s with
      dataLatch := s.a, a := s.x, flagZ := decide (s.x.toNat = 0), flagN := decide (128 ≤ s.x.toNat) }) ∧
    exec .tya s = .next (retire 2 { s with
      dataLatch := s.a, a := s.y, flagZ := decide (s.y.toNat = 0), flagN := decide (128 ≤ s.y.toNat) }) ∧
    exec .txs s = .next (retire 2 { s with dataLatch := s.a, sp := s.x }) ∧
    encode .tax = [0xAA] ∧ encode .tay = [0xA8] ∧ encode .tsx = [0xBA] ∧ encode .txa = [0x8A] ∧
    encode .tya = [0x98] ∧ encode .txs = [0x9A]

/-! ## Arithmetic, logic, compares (42_alu_logic_compare.md) -/

/-- R140, R150: `ADC` in every form: `a + m + C` as a number, whatever `D` is. -/
def Obligations.AdcAddsWithCarry : Prop :=
  (∀ (i : Instr) (s : State), i.mnemonic = .adc →
    let r := (resolve i s).1; let m := r.dataLatch.toNat; let sum := s.a.toNat + m + s.flagC.toNat
    exec i s = .next (retire (costOf i s) { r with
      a := BitVec.ofNat 8 sum, flagC := decide (256 ≤ sum), flagZ := decide (sum % 256 = 0),
      flagN := decide (128 ≤ sum % 256),
      flagV := decide ((128 ≤ s.a.toNat ↔ 128 ≤ m) ∧ ¬ (128 ≤ sum % 256 ↔ 128 ≤ s.a.toNat)) })) ∧
  formsOf .adc = [(0x61, .izx), (0x65, .zp), (0x69, .imm), (0x6D, .abs), (0x71, .izy), (0x75, .zpx),
    (0x79, .aby), (0x7D, .abx)]

/-- R141: `SBC` in every form: `a - m - (1 - C)` modulo 256; `C` is "no borrow"; `V` when `a` and the operand differ in
sign and the result has the operand's sign. -/
def Obligations.SbcSubtractsWithBorrow : Prop :=
  (∀ (i : Instr) (s : State), i.mnemonic = .sbc →
    let r := (resolve i s).1; let m := r.dataLatch.toNat; let take := m + (1 - s.flagC.toNat)
    let diff := (s.a.toNat + 256 - take) % 256
    exec i s = .next (retire (costOf i s) { r with
      a := BitVec.ofNat 8 diff, flagC := decide (take ≤ s.a.toNat), flagZ := decide (diff = 0),
      flagN := decide (128 ≤ diff),
      flagV := decide (¬ (128 ≤ s.a.toNat ↔ 128 ≤ m) ∧ (128 ≤ diff ↔ 128 ≤ m)) })) ∧
  formsOf .sbc = [(0xE1, .izx), (0xE5, .zp), (0xE9, .imm), (0xED, .abs), (0xF1, .izy), (0xF5, .zpx),
    (0xF9, .aby), (0xFD, .abx)]

/-- R149, R150: `V` after `ADC` and `SBC` says exactly that the signed result leaves -128..127; otherwise `a` holds that
signed result. -/
def Obligations.OverflowIsSignedOutOfRange : Prop :=
  ∀ (i : Instr) (s : State), let m := (resolve i s).1.dataLatch.toInt
    (i.mnemonic = .adc → ∃ t, exec i s = .next t ∧ (let exact := s.a.toInt + m + s.flagC.toNat
      t.flagV = decide (exact < -128 ∨ 127 < exact) ∧ (t.flagV = false → t.a.toInt = exact))) ∧
    (i.mnemonic = .sbc → ∃ t, exec i s = .next t ∧ (let exact := s.a.toInt - m - (1 - (s.flagC.toNat : Int))
      t.flagV = decide (exact < -128 ∨ 127 < exact) ∧ (t.flagV = false → t.a.toInt = exact)))

/-- R142 to R145: the bitwise instructions in every form; `BIT` takes `Z` from the conjunction, `N` and `V` from the
operand, and writes no register. -/
def Obligations.LogicAndBitTest : Prop :=
  ((∀ (i : Instr) (s : State), let r := (resolve i s).1; let m := r.dataLatch
    (i.mnemonic = .and → exec i s = .next (retire (costOf i s) { r with
      a := s.a &&& m, flagZ := decide ((s.a &&& m) = 0#8), flagN := (s.a.getLsbD 7 && m.getLsbD 7) })) ∧
    (i.mnemonic = .ora → exec i s = .next (retire (costOf i s) { r with
      a := s.a ||| m, flagZ := decide (s.a = 0#8 ∧ m = 0#8), flagN := (s.a.getLsbD 7 || m.getLsbD 7) })) ∧
    (i.mnemonic = .eor → exec i s = .next (retire (costOf i s) { r with
      a := s.a ^^^ m, flagZ := decide (s.a = m), flagN := (s.a.getLsbD 7 != m.getLsbD 7) }))) ∧
  formsOf .and = [(0x21, .izx), (0x25, .zp), (0x29, .imm), (0x2D, .abs), (0x31, .izy), (0x35, .zpx),
    (0x39, .aby), (0x3D, .abx)] ∧
  formsOf .ora = [(0x01, .izx), (0x05, .zp), (0x09, .imm), (0x0D, .abs), (0x11, .izy), (0x15, .zpx),
    (0x19, .aby), (0x1D, .abx)] ∧
  formsOf .eor = [(0x41, .izx), (0x45, .zp), (0x49, .imm), (0x4D, .abs), (0x51, .izy), (0x55, .zpx),
    (0x59, .aby), (0x5D, .abx)]) ∧
  ((∀ (i : Instr) (s : State), i.mnemonic = .bit → let r := (resolve i s).1; let m := r.dataLatch
    exec i s = .next (retire (costOf i s) { r with
      flagZ := decide ((s.a &&& m) = 0#8), flagN := decide (128 ≤ m.toNat), flagV := decide (64 ≤ m.toNat % 128) })) ∧
  formsOf .bit = [(0x24, .zp), (0x2C, .abs)])

/-- R146, R147, R148: the compares in every form: `C` is register at least operand, `Z` equality, `N` bit 7 of the
eight-bit difference; no register is written. -/
def Obligations.ComparesSubtractWithoutStoring : Prop :=
  (∀ (i : Instr) (s : State), let r := (resolve i s).1; let m := r.dataLatch.toNat
    (i.mnemonic = .cmp → exec i s = .next (retire (costOf i s) { r with
      flagC := decide (m ≤ s.a.toNat), flagZ := decide (s.a.toNat = m),
      flagN := decide (128 ≤ (s.a.toNat + 256 - m) % 256) })) ∧
    (i.mnemonic = .cpx → exec i s = .next (retire (costOf i s) { r with
      flagC := decide (m ≤ s.x.toNat), flagZ := decide (s.x.toNat = m),
      flagN := decide (128 ≤ (s.x.toNat + 256 - m) % 256) })) ∧
    (i.mnemonic = .cpy → exec i s = .next (retire (costOf i s) { r with
      flagC := decide (m ≤ s.y.toNat), flagZ := decide (s.y.toNat = m),
      flagN := decide (128 ≤ (s.y.toNat + 256 - m) % 256) }))) ∧
  formsOf .cmp = [(0xC1, .izx), (0xC5, .zp), (0xC9, .imm), (0xCD, .abs), (0xD1, .izy), (0xD5, .zpx),
    (0xD9, .aby), (0xDD, .abx)] ∧
  formsOf .cpx = [(0xE0, .imm), (0xE4, .zp), (0xEC, .abs)] ∧
  formsOf .cpy = [(0xC0, .imm), (0xC4, .zp), (0xCC, .abs)]

/-! ## Shifts, increments, decrements (43_shift_incdec.md) -/

/-- R160 to R164: the shifts and rotates in every form; the result goes to `a` in Accumulator mode and to the effective
address otherwise. -/
def Obligations.ShiftsMoveOneBitThroughCarry : Prop :=
  (∀ (i : Instr) (s : State), let r := (resolve i s).1; let m := r.dataLatch.toNat; let c := s.flagC.toNat
    (i.mnemonic = .asl → exec i s = .next (retire (costOf i s) (wroteBack i (BitVec.ofNat 8 (2 * m))
      { r with flagC := decide (128 ≤ m), flagZ := decide (m % 128 = 0), flagN := decide (64 ≤ m % 128) }))) ∧
    (i.mnemonic = .lsr → exec i s = .next (retire (costOf i s) (wroteBack i (BitVec.ofNat 8 (m / 2))
      { r with flagC := decide (m % 2 = 1), flagZ := decide (m / 2 = 0), flagN := false }))) ∧
    (i.mnemonic = .rol → exec i s = .next (retire (costOf i s) (wroteBack i (BitVec.ofNat 8 (2 * m + c))
      { r with flagC := decide (128 ≤ m), flagZ := decide (m % 128 = 0 ∧ c = 0), flagN := decide (64 ≤ m % 128) }))) ∧
    (i.mnemonic = .ror → exec i s = .next (retire (costOf i s) (wroteBack i (BitVec.ofNat 8 (m / 2 + 128 * c))
      { r with flagC := decide (m % 2 = 1), flagZ := decide (m / 2 = 0 ∧ c = 0), flagN := s.flagC })))) ∧
  formsOf .asl = [(0x06, .zp), (0x0A, .acc), (0x0E, .abs), (0x16, .zpx), (0x1E, .abx)] ∧
  formsOf .lsr = [(0x46, .zp), (0x4A, .acc), (0x4E, .abs), (0x56, .zpx), (0x5E, .abx)] ∧
  formsOf .rol = [(0x26, .zp), (0x2A, .acc), (0x2E, .abs), (0x36, .zpx), (0x3E, .abx)] ∧
  formsOf .ror = [(0x66, .zp), (0x6A, .acc), (0x6E, .abs), (0x76, .zpx), (0x7E, .abx)]

/-- R171: nine `ROL A`, or nine `ROR A`, restore accumulator and carry; eight need not. -/
def Obligations.NineRotatesRestore : Prop :=
  ∀ i ∈ [Instr.rolAcc, Instr.rorAcc],
    (∀ s : State, ∃ t, execAll (List.replicate 9 i) s = .next t ∧ t.a = s.a ∧ t.flagC = s.flagC) ∧
      ∃ s t, execAll (List.replicate 8 i) s = .next t ∧ t.a ≠ s.a

/-- R165, R166: `INC` and `DEC` in every form: the operand plus or minus one, modulo 256, written back once. -/
def Obligations.MemoryIncrementsByOne : Prop :=
  (∀ (i : Instr) (s : State), let r := (resolve i s).1; let m := r.dataLatch.toNat
    (i.mnemonic = .inc → exec i s = .next (retire (costOf i s)
      (memWrite r.effectiveAddress (BitVec.ofNat 8 (m + 1)) { r with
        flagZ := decide (m = 255), flagN := decide (127 ≤ m ∧ m ≠ 255) }))) ∧
    (i.mnemonic = .dec → exec i s = .next (retire (costOf i s)
      (memWrite r.effectiveAddress (BitVec.ofNat 8 (m + 255)) { r with
        flagZ := decide (m = 1), flagN := decide (129 ≤ m ∨ m = 0) })))) ∧
  formsOf .inc = [(0xE6, .zp), (0xEE, .abs), (0xF6, .zpx), (0xFE, .abx)] ∧
  formsOf .dec = [(0xC6, .zp), (0xCE, .abs), (0xD6, .zpx), (0xDE, .abx)]

/-- R167 to R170: `INX INY DEX DEY`: one more or one less, modulo 256; neither `C` nor `V`. -/
def Obligations.IndexRegistersCountByOne : Prop :=
  ∀ s : State, let nx := s.x.toNat; let ny := s.y.toNat
    exec .inx s = .next (retire 2 { s with
      dataLatch := s.a, x := BitVec.ofNat 8 (nx + 1), flagZ := decide (nx = 255), flagN := decide (127 ≤ nx ∧ nx ≠ 255) }) ∧
    exec .iny s = .next (retire 2 { s with
      dataLatch := s.a, y := BitVec.ofNat 8 (ny + 1), flagZ := decide (ny = 255), flagN := decide (127 ≤ ny ∧ ny ≠ 255) }) ∧
    exec .dex s = .next (retire 2 { s with
      dataLatch := s.a, x := BitVec.ofNat 8 (nx + 255), flagZ := decide (nx = 1), flagN := decide (129 ≤ nx ∨ nx = 0) }) ∧
    exec .dey s = .next (retire 2 { s with
      dataLatch := s.a, y := BitVec.ofNat 8 (ny + 255), flagZ := decide (ny = 1), flagN := decide (129 ≤ ny ∨ ny = 0) }) ∧
    encode .inx = [0xE8] ∧ encode .iny = [0xC8] ∧ encode .dex = [0xCA] ∧ encode .dey = [0x88]

/-! ## Control transfer (44_control_transfer.md) -/

/-- R180 to R188: the common branch rule: taken, `pc` is the signed target and the cost 3, or 4 in another page; not
taken, the next instruction and cost 2. Then which flag and polarity each of the eight mnemonics tests. -/
def Obligations.BranchesFollowTheirCondition : Prop :=
  (∀ (i : Instr) (s : State) (cond : Bool), branchCondition i.mnemonic s = some cond →
    let r := (resolve i s).1; let target := s.pc + BitVec.ofInt 16 i.operand.asByte.toInt
    r.effectiveAddress = target ∧
    exec i s = .next (if cond then
        retire (if target.toNat / 256 = s.pc.toNat / 256 then 3 else 4) { r with pc := target }
      else retire 2 r)) ∧
  (∀ (s : State) (d : Byte), let target := s.pc + BitVec.ofInt 16 d.toInt
    (∃ t, exec (.bcc d) s = .next t ∧ t.pc = if s.flagC then s.pc else target) ∧
    (∃ t, exec (.bcs d) s = .next t ∧ t.pc = if s.flagC then target else s.pc) ∧
    (∃ t, exec (.beq d) s = .next t ∧ t.pc = if s.flagZ then target else s.pc) ∧
    (∃ t, exec (.bne d) s = .next t ∧ t.pc = if s.flagZ then s.pc else target) ∧
    (∃ t, exec (.bmi d) s = .next t ∧ t.pc = if s.flagN then target else s.pc) ∧
    (∃ t, exec (.bpl d) s = .next t ∧ t.pc = if s.flagN then s.pc else target) ∧
    (∃ t, exec (.bvc d) s = .next t ∧ t.pc = if s.flagV then s.pc else target) ∧
    (∃ t, exec (.bvs d) s = .next t ∧ t.pc = if s.flagV then target else s.pc) ∧
    encode (.bcc d) = [0x90, d] ∧ encode (.bcs d) = [0xB0, d] ∧ encode (.beq d) = [0xF0, d] ∧
    encode (.bne d) = [0xD0, d] ∧ encode (.bmi d) = [0x30, d] ∧ encode (.bpl d) = [0x10, d] ∧
    encode (.bvc d) = [0x50, d] ∧ encode (.bvs d) = [0x70, d])

/-- R189: `JMP` in both forms: `pc` is the effective address and nothing else changes. -/
def Obligations.JumpLoadsPc : Prop :=
  (∀ (i : Instr) (s : State), i.mnemonic = .jmp → let r := (resolve i s).1
    exec i s = .next (retire (if i.mode = .abs then 3 else 5) { r with pc := r.effectiveAddress })) ∧
  (∀ target : Word, encode (.jmpAbs target) = [0x4C, lowByte target, highByte target] ∧
    encode (.jmpInd target) = [0x6C, lowByte target, highByte target])

/-- R190: `JSR`: the address of its own last byte is stacked, high byte first, and `pc` is the operand. -/
def Obligations.JsrStacksItsLastByte : Prop :=
  ∀ (target : Word) (s : State), ∃ t, exec (.jsr target) s = .next t ∧ t.pc = target ∧ t.sp = s.sp - 2#8 ∧
    peek t (stackSlot s.sp) = some (highByte (s.pc - 1#16)) ∧
    peek t (stackSlot (s.sp - 1#8)) = some (lowByte (s.pc - 1#16)) ∧ t.cycles = s.cycles + 6 ∧
    t.a = s.a ∧ t.x = s.x ∧ t.y = s.y ∧ packP t = packP s ∧
    (∃ unused, t.busLog = .write (stackSlot (s.sp - 1#8)) (lowByte (s.pc - 1#16)) ::
      .write (stackSlot s.sp) (highByte (s.pc - 1#16)) :: .read target unused :: s.busLog) ∧
    encode (.jsr target) = [0x20, lowByte target, highByte target]

/-- R191: `RTS`: the popped address plus one, low byte popped first. -/
def Obligations.RtsReturnsPastThePoppedAddress : Prop :=
  ∀ s : State, ∃ t lo hi, exec .rts s = .next t ∧ peek s (stackSlot (s.sp + 1#8)) = some lo ∧
    peek s (stackSlot (s.sp + 2#8)) = some hi ∧ t.pc.toNat = (hi.toNat * 256 + lo.toNat + 1) % 65536 ∧
    t.sp = s.sp + 2#8 ∧ t.cycles = s.cycles + 6 ∧ t.mem = s.mem ∧
    t.a = s.a ∧ t.x = s.x ∧ t.y = s.y ∧ packP t = packP s ∧
    t.busLog = .read (stackSlot (s.sp + 2#8)) hi :: .read (stackSlot (s.sp + 1#8)) lo :: s.busLog ∧
    encode .rts = [0x60]

/-- R190, R191, R192: `JSR` and then `RTS` return to the instruction after the `JSR`, with the stack pointer, the
registers and the flags as they were, also where the stack wraps. -/
def Obligations.JsrThenRtsReturns : Prop :=
  ∀ (target : Word) (s : State), ∃ t, execAll [.jsr target, .rts] s = .next t ∧ t.pc = s.pc ∧ t.sp = s.sp ∧
    t.a = s.a ∧ t.x = s.x ∧ t.y = s.y ∧ packP t = packP s ∧ t.cycles = s.cycles + 12

/-! ## Stack, flags, trap (45_stack_flags_system.md, 60_exceptions.md) -/

/-- R200, R201: the stack is empty-descending in page one and wraps there: a push writes one byte at the slot of `sp` and
steps `sp` down, a pop steps it up and reads one byte there, erasing nothing; neither stops at the ends. -/
def Obligations.StackIsEmptyDescending : Prop :=
  ∀ (s : State) (v : Byte) (q : Word),
    (push v s).sp.toNat = (s.sp.toNat + 255) % 256 ∧
    peek (push v s) q = (if q.toNat < 0x2000 ∧ q.toNat % 2048 = 256 + s.sp.toNat then some v else peek s q) ∧
    (push v s).busLog = .write (stackSlot s.sp) v :: s.busLog ∧
    (pop s).2 = { s with
      sp := BitVec.ofNat 8 (s.sp.toNat + 1), busLog := .read (stackSlot (s.sp + 1#8)) (pop s).1 :: s.busLog } ∧
    peek s (BitVec.ofNat 16 (256 + (s.sp.toNat + 1) % 256)) = some (pop s).1 ∧
    (pop (push v s)).1 = v ∧ (pop (push v s)).2.sp = s.sp

/-- R202, R203, R204, R205: push and pull of the accumulator and of the status byte; `PHA`, any load of the
accumulator, `PLA`: the accumulator and `sp` are back. -/
def Obligations.PushAndPull : Prop :=
  (∀ s : State,
    (∃ t, exec .pha s = .next t ∧ peek t (stackSlot s.sp) = some s.a ∧ t.sp = s.sp - 1#8 ∧ t.a = s.a ∧
      packP t = packP s ∧ t.cycles = s.cycles + 3 ∧ t.busLog = .write (stackSlot s.sp) s.a :: s.busLog) ∧
    (∃ t, exec .pla s = .next t ∧ peek s (stackSlot (s.sp + 1#8)) = some t.a ∧ t.sp = s.sp + 1#8 ∧
      t.flagZ = decide (t.a.toNat = 0) ∧ t.flagN = decide (128 ≤ t.a.toNat) ∧ t.mem = s.mem ∧
      t.cycles = s.cycles + 4 ∧ t.busLog = .read (stackSlot (s.sp + 1#8)) t.a :: s.busLog) ∧
    (∃ t, exec .php s = .next t ∧ peek t (stackSlot s.sp) = some (packP s ||| 0x30#8) ∧ t.sp = s.sp - 1#8 ∧
      packP t = packP s ∧ t.cycles = s.cycles + 3 ∧
      t.busLog = .write (stackSlot s.sp) (packP s ||| 0x30#8) :: s.busLog) ∧
    (∃ t p, exec .plp s = .next t ∧ peek s (stackSlot (s.sp + 1#8)) = some p ∧ t.sp = s.sp + 1#8 ∧
      packP t = (p &&& 0xCF#8) ||| 0x20#8 ∧ t.flagB = false ∧ t.mem = s.mem ∧ t.cycles = s.cycles + 4 ∧
      t.busLog = .read (stackSlot (s.sp + 1#8)) p :: s.busLog) ∧
    encode .pha = [0x48] ∧ encode .pla = [0x68] ∧ encode .php = [0x08] ∧ encode .plp = [0x28]) ∧
  (∀ (s : State) (v : Byte), ∃ t, execAll [.pha, .ldaImm v, .pla] s = .next t ∧ t.a = s.a ∧ t.sp = s.sp ∧
    t.flagZ = decide (s.a.toNat = 0) ∧ t.flagN = decide (128 ≤ s.a.toNat) ∧ t.cycles = s.cycles + 9)

/-- R206 to R213: the seven flag instructions write one flag with a constant; `NOP` writes nothing of the
programmer's state. -/
def Obligations.FlagInstructionsWriteOneFlag : Prop :=
  ∀ s : State, let r := { s with dataLatch := s.a }
    exec .clc s = .next (retire 2 { r with flagC := false }) ∧ exec .sec s = .next (retire 2 { r with flagC := true }) ∧
    exec .cli s = .next (retire 2 { r with flagI := false }) ∧ exec .sei s = .next (retire 2 { r with flagI := true }) ∧
    exec .cld s = .next (retire 2 { r with flagD := false }) ∧ exec .sed s = .next (retire 2 { r with flagD := true }) ∧
    exec .clv s = .next (retire 2 { r with flagV := false }) ∧ exec .nop s = .next (retire 2 r) ∧
    encode .clc = [0x18] ∧ encode .sec = [0x38] ∧ encode .cli = [0x58] ∧ encode .sei = [0x78] ∧ encode .cld = [0xD8] ∧
    encode .sed = [0xF8] ∧ encode .clv = [0xB8] ∧ encode .nop = [0xEA]

/-- R214, R236: the entry of `BRK`: return address past the padding byte, high byte first, then the status byte with
bits 5, 4 and 2 set; `I` set, `B` clear; `pc` from the vector, the bytes that two reads of it answer. -/
def Obligations.BrkEntersTheHandler : Prop :=
  ∀ s : State, ∃ t p, exec .brk s = .next t ∧ t.sp = s.sp - 3#8 ∧
    peek t (stackSlot s.sp) = some (highByte (s.pc + 1#16)) ∧
    peek t (stackSlot (s.sp - 1#8)) = some (lowByte (s.pc + 1#16)) ∧ peek t (stackSlot (s.sp - 2#8)) = some p ∧
    p.toNat = 128 * s.flagN.toNat + 64 * s.flagV.toNat + 32 + 16 + 8 * s.flagD.toNat + 4 + 2 * s.flagZ.toNat +
      s.flagC.toNat ∧
    t.flagI = true ∧ t.flagB = false ∧ t.flagN = s.flagN ∧ t.flagV = s.flagV ∧ t.flagD = s.flagD ∧
    t.flagZ = s.flagZ ∧ t.flagC = s.flagC ∧ t.a = s.a ∧ t.x = s.x ∧ t.y = s.y ∧ t.cycles = s.cycles + 7 ∧
    (∃ lo hi, t.pc.toNat = hi.toNat * 256 + lo.toNat ∧
      t.busLog = .read 0xFFFF#16 hi :: .read 0xFFFE#16 lo :: .write (stackSlot (s.sp - 2#8)) p ::
        .write (stackSlot (s.sp - 1#8)) (lowByte (s.pc + 1#16)) :: .write (stackSlot s.sp) (highByte (s.pc + 1#16)) ::
        s.busLog ∧
      (∀ held, peek s 0xFFFE#16 = some held → lo = held) ∧ (∀ held, peek s 0xFFFF#16 = some held → hi = held)) ∧
    encode .brk = [0x00]

/-- R215, R237: `RTI`: status byte, then `pc` low, then high; nothing added; bits 5 and 4 of the status ignored. -/
def Obligations.RtiRestoresStatusAndPc : Prop :=
  ∀ s : State, ∃ t p lo hi, exec .rti s = .next t ∧ peek s (stackSlot (s.sp + 1#8)) = some p ∧
    peek s (stackSlot (s.sp + 2#8)) = some lo ∧ peek s (stackSlot (s.sp + 3#8)) = some hi ∧
    t.pc.toNat = hi.toNat * 256 + lo.toNat ∧ packP t = (p &&& 0xCF#8) ||| 0x20#8 ∧ t.flagB = false ∧
    t.sp = s.sp + 3#8 ∧ t.mem = s.mem ∧ t.a = s.a ∧ t.x = s.x ∧ t.y = s.y ∧ t.cycles = s.cycles + 6 ∧
    t.busLog = .read (stackSlot (s.sp + 3#8)) hi :: .read (stackSlot (s.sp + 2#8)) lo ::
      .read (stackSlot (s.sp + 1#8)) p :: s.busLog ∧
    encode .rti = [0x40]

/-- R237, R238: `BRK` and then `RTI` resume past the padding byte with `I` set, `B` clear and everything else of the
programmer's registers as it was, also where the stack wraps and where `I` was set before. -/
def Obligations.BrkThenRtiResumes : Prop :=
  ∀ s : State, ∃ t, execAll [.brk, .rti] s = .next t ∧ t.pc = s.pc + 1#16 ∧ t.sp = s.sp ∧ t.flagI = true ∧
    t.flagB = false ∧ t.flagN = s.flagN ∧ t.flagV = s.flagV ∧ t.flagD = s.flagD ∧ t.flagZ = s.flagZ ∧
    t.flagC = s.flagC ∧ t.a = s.a ∧ t.x = s.x ∧ t.y = s.y ∧ t.cycles = s.cycles + 13
end

