-- ==== Sys2Proof/Laws/Exec.lean ====
section
/-!
SUPPORT. Every arm of exec as one equation: the resolver of the instruction's mode, then the Execute slot of its mnemonic.
-/
namespace Sys2Proof.Machine

/-- The Execute slot of an instruction. -/
def bodyOf (i : Instr) : State → Executed :=
  match i.mnemonic with
  | .lda => ldaBody
  | .ldx => ldxBody
  | .ldy => ldyBody
  | .sta => staBody
  | .stx => stxBody
  | .sty => styBody
  | .tax => taxBody
  | .tay => tayBody
  | .tsx => tsxBody
  | .txa => txaBody
  | .txs => txsBody
  | .tya => tyaBody
  | .adc => adcBody
  | .sbc => sbcBody
  | .and => andBody
  | .ora => oraBody
  | .eor => eorBody
  | .bit => bitBody
  | .cmp => cmpBody
  | .cpx => cpxBody
  | .cpy => cpyBody
  | .asl => aslBody i.mode
  | .lsr => lsrBody i.mode
  | .rol => rolBody i.mode
  | .ror => rorBody i.mode
  | .inc => incBody
  | .dec => decBody
  | .inx => inxBody
  | .iny => inyBody
  | .dex => dexBody
  | .dey => deyBody
  | .bcc => bccBody
  | .bcs => bcsBody
  | .beq => beqBody
  | .bne => bneBody
  | .bmi => bmiBody
  | .bpl => bplBody
  | .bvc => bvcBody
  | .bvs => bvsBody
  | .jmp => jmpBody
  | .jsr => jsrBody
  | .rts => rtsBody
  | .pha => phaBody
  | .pla => plaBody
  | .php => phpBody
  | .plp => plpBody
  | .clc => clcBody
  | .sec => secBody
  | .cli => cliBody
  | .sei => seiBody
  | .cld => cldBody
  | .sed => sedBody
  | .clv => clvBody
  | .nop => nopBody
  | .brk => brkBody
  | .rti => rtiBody

/-- No meaning departs from its table entry, its mode's resolver and its mnemonic's Execute slot. -/
theorem exec_eq_complete (i : Instr) (s : State) :
    exec i s = complete (baseCyclesOf i) (resolve i s) (bodyOf i) := by
  cases i <;> rfl

end Sys2Proof.Machine
end

