-- ==== Sys2Proof/Laws/Memory.lean ====
section
/-!
SUPPORT. The laws of the memory list: a read after a write to the same cell gives the byte written, a write leaves every
other cell alone, and every operation keeps the canonical form.
-/
namespace Sys2Proof.Machine

theorem Memory.read_erase_same (m : Memory) (c : Nat) :
    Memory.read (Memory.erase m c) c = Config.unwrittenByte := by
  induction m with
  | nil => rfl
  | cons e m ih =>
    obtain ⟨k, b⟩ := e
    by_cases h : k = c
    · simpa [Memory.erase, h] using ih
    · simpa [Memory.erase, h, Memory.read] using ih

theorem Memory.read_erase_ne (m : Memory) {c d : Nat} (h : d ≠ c) :
    Memory.read (Memory.erase m c) d = Memory.read m d := by
  induction m with
  | nil => rfl
  | cons e m ih =>
    obtain ⟨k, b⟩ := e
    by_cases hk : k = c
    · subst hk
      simpa [Memory.erase, Memory.read, h.symm] using ih
    · simp only [Memory.erase, List.filter_cons, bne_iff_ne, ne_eq, hk, not_false_eq_true, ↓reduceIte, Memory.read]
      split
      · rfl
      · exact ih

theorem Memory.read_insert_same (m : Memory) (c : Nat) (v : Byte) (h : ∀ e ∈ m, e.1 ≠ c) :
    Memory.read (Memory.insert m c v) c = v := by
  induction m with
  | nil => simp [Memory.insert, Memory.read]
  | cons e m ih =>
    obtain ⟨k, b⟩ := e
    have hk : k ≠ c := h (k, b) (by simp)
    by_cases hlt : c < k
    · simp [Memory.insert, hlt, Memory.read]
    · simp [Memory.insert, hlt, Memory.read, hk, ih (fun e he => h e (by simp [he]))]

theorem Memory.read_insert_ne (m : Memory) {c d : Nat} (v : Byte) (h : d ≠ c) :
    Memory.read (Memory.insert m c v) d = Memory.read m d := by
  induction m with
  | nil => simp [Memory.insert, Memory.read, h.symm]
  | cons e m ih =>
    obtain ⟨k, b⟩ := e
    by_cases hlt : c < k
    · simp [Memory.insert, hlt, Memory.read, h.symm]
    · simp [Memory.insert, hlt, Memory.read, ih]

theorem Memory.mem_erase_ne (m : Memory) (c : Nat) : ∀ e ∈ Memory.erase m c, e.1 ≠ c := by
  intro e he
  simpa [Memory.erase] using (List.mem_filter.mp he).2

/-- A read after a write to the same cell gives the byte written. -/
@[simp] theorem Memory.read_write_same (m : Memory) (c : Nat) (v : Byte) :
    Memory.read (Memory.write m c v) c = v := by
  unfold Memory.write
  split
  · next h => rw [h, Memory.read_erase_same]
  · exact Memory.read_insert_same _ c v (Memory.mem_erase_ne m c)

/-- A write leaves every other cell alone. -/
theorem Memory.read_write_ne (m : Memory) {c d : Nat} (v : Byte) (h : d ≠ c) :
    Memory.read (Memory.write m c v) d = Memory.read m d := by
  unfold Memory.write
  split
  · exact Memory.read_erase_ne m h
  · rw [Memory.read_insert_ne _ v h, Memory.read_erase_ne m h]

/-! ### The canonical form -/

theorem Memory.wfAbove_weaken {b : Option Nat} {m : Memory} (h : Memory.wfAbove b m = true) :
    Memory.wfAbove none m = true := by
  cases m with
  | nil => rfl
  | cons e m =>
    simp only [Memory.wfAbove, Bool.and_eq_true, Option.all_none] at h ⊢
    exact ⟨⟨⟨trivial, h.1.1.2⟩, h.1.2⟩, h.2⟩

theorem Memory.wfAbove_of_lt {k l : Nat} {m : Memory} (hkl : k ≤ l) (h : Memory.wfAbove (some l) m = true) :
    Memory.wfAbove (some k) m = true := by
  cases m with
  | nil => rfl
  | cons e m =>
    simp only [Memory.wfAbove, Bool.and_eq_true, Option.all_some, decide_eq_true_eq] at h ⊢
    exact ⟨⟨⟨by omega, h.1.1.2⟩, h.1.2⟩, h.2⟩

theorem Memory.wfAbove_erase {b : Option Nat} {m : Memory} (c : Nat) (h : Memory.wfAbove b m = true) :
    Memory.wfAbove b (Memory.erase m c) = true := by
  induction m generalizing b with
  | nil => rfl
  | cons e m ih =>
    obtain ⟨k, v⟩ := e
    simp only [Memory.wfAbove, Bool.and_eq_true] at h
    by_cases hk : k = c
    · have hm : Memory.wfAbove b m = true := by
        cases b with
        | none => exact Memory.wfAbove_weaken h.2
        | some low => exact Memory.wfAbove_of_lt (by simpa using Nat.le_of_lt (by simpa using h.1.1.1)) h.2
      simpa [Memory.erase, hk] using ih hm
    · have := ih h.2
      simp only [Memory.erase] at this
      simp [Memory.erase, hk, Memory.wfAbove, h.1.1.1, h.1.1.2, this]
      simpa using h.1.2

theorem Memory.wfAbove_insert {b : Option Nat} {m : Memory} {c : Nat} {v : Byte} (hc : Memory.cellExists c = true)
    (hv : v ≠ Config.unwrittenByte) (hb : b.all (fun low => decide (low < c)) = true)
    (hm : ∀ e ∈ m, e.1 ≠ c) (h : Memory.wfAbove b m = true) :
    Memory.wfAbove b (Memory.insert m c v) = true := by
  induction m generalizing b with
  | nil => simp [Memory.insert, Memory.wfAbove, hc, hv, hb]
  | cons e m ih =>
    obtain ⟨k, w⟩ := e
    simp only [Memory.wfAbove, Bool.and_eq_true] at h
    by_cases hlt : c < k
    · simp only [Memory.insert, hlt, ↓reduceIte, Memory.wfAbove, Bool.and_eq_true]
      exact ⟨⟨⟨hb, hc⟩, by simpa using hv⟩, ⟨⟨by simpa using hlt, h.1.1.2⟩, h.1.2⟩, h.2⟩
    · have hne : k ≠ c := hm (k, w) (by simp)
      simp only [Memory.insert, hlt, ↓reduceIte, Memory.wfAbove, Bool.and_eq_true]
      exact ⟨h.1, ih (by simp; omega) (fun e he => hm e (by simp [he])) h.2⟩

/-- Writing a cell that exists keeps the canonical form. -/
theorem Memory.wf_write {m : Memory} {c : Nat} (v : Byte) (hc : Memory.cellExists c = true)
    (h : Memory.wf m = true) : Memory.wf (Memory.write m c v) = true := by
  unfold Memory.write Memory.wf
  split
  · exact Memory.wfAbove_erase c h
  · next hv => exact Memory.wfAbove_insert hc hv rfl (Memory.mem_erase_ne m c) (Memory.wfAbove_erase c h)

end Sys2Proof.Machine
end

