-- ==== Sys2Proof/Laws/State.lean ====
section
/-!
SUPPORT. One lemma per field and named update of State, so that no later proof unfolds a record update.
-/
namespace Sys2Proof.Machine

/-! ### setZN -/

@[simp] theorem setZN_a (v : Byte) (s : State) : (setZN v s).a = s.a := rfl
@[simp] theorem setZN_x (v : Byte) (s : State) : (setZN v s).x = s.x := rfl
@[simp] theorem setZN_y (v : Byte) (s : State) : (setZN v s).y = s.y := rfl
@[simp] theorem setZN_sp (v : Byte) (s : State) : (setZN v s).sp = s.sp := rfl
@[simp] theorem setZN_pc (v : Byte) (s : State) : (setZN v s).pc = s.pc := rfl
@[simp] theorem setZN_flagN (v : Byte) (s : State) : (setZN v s).flagN = bitOf v 7 := rfl
@[simp] theorem setZN_flagV (v : Byte) (s : State) : (setZN v s).flagV = s.flagV := rfl
@[simp] theorem setZN_flagB (v : Byte) (s : State) : (setZN v s).flagB = s.flagB := rfl
@[simp] theorem setZN_flagD (v : Byte) (s : State) : (setZN v s).flagD = s.flagD := rfl
@[simp] theorem setZN_flagI (v : Byte) (s : State) : (setZN v s).flagI = s.flagI := rfl
@[simp] theorem setZN_flagZ (v : Byte) (s : State) : (setZN v s).flagZ = (v == 0x00#8) := rfl
@[simp] theorem setZN_flagC (v : Byte) (s : State) : (setZN v s).flagC = s.flagC := rfl
@[simp] theorem setZN_dataLatch (v : Byte) (s : State) : (setZN v s).dataLatch = s.dataLatch := rfl
@[simp] theorem setZN_effectiveAddress (v : Byte) (s : State) : (setZN v s).effectiveAddress = s.effectiveAddress := rfl
@[simp] theorem setZN_temp (v : Byte) (s : State) : (setZN v s).temp = s.temp := rfl
@[simp] theorem setZN_cycles (v : Byte) (s : State) : (setZN v s).cycles = s.cycles := rfl
@[simp] theorem setZN_mem (v : Byte) (s : State) : (setZN v s).mem = s.mem := rfl
@[simp] theorem setZN_high (v : Byte) (s : State) : (setZN v s).high = s.high := rfl
@[simp] theorem setZN_draws (v : Byte) (s : State) : (setZN v s).draws = s.draws := rfl
@[simp] theorem setZN_busLog (v : Byte) (s : State) : (setZN v s).busLog = s.busLog := rfl

/-! ### unpackP -/

@[simp] theorem unpackP_a (v : Byte) (s : State) : (unpackP v s).a = s.a := rfl
@[simp] theorem unpackP_x (v : Byte) (s : State) : (unpackP v s).x = s.x := rfl
@[simp] theorem unpackP_y (v : Byte) (s : State) : (unpackP v s).y = s.y := rfl
@[simp] theorem unpackP_sp (v : Byte) (s : State) : (unpackP v s).sp = s.sp := rfl
@[simp] theorem unpackP_pc (v : Byte) (s : State) : (unpackP v s).pc = s.pc := rfl
@[simp] theorem unpackP_flagN (v : Byte) (s : State) : (unpackP v s).flagN = bitOf v 7 := rfl
@[simp] theorem unpackP_flagV (v : Byte) (s : State) : (unpackP v s).flagV = bitOf v 6 := rfl
@[simp] theorem unpackP_flagB (v : Byte) (s : State) : (unpackP v s).flagB = false := rfl
@[simp] theorem unpackP_flagD (v : Byte) (s : State) : (unpackP v s).flagD = bitOf v 3 := rfl
@[simp] theorem unpackP_flagI (v : Byte) (s : State) : (unpackP v s).flagI = bitOf v 2 := rfl
@[simp] theorem unpackP_flagZ (v : Byte) (s : State) : (unpackP v s).flagZ = bitOf v 1 := rfl
@[simp] theorem unpackP_flagC (v : Byte) (s : State) : (unpackP v s).flagC = bitOf v 0 := rfl
@[simp] theorem unpackP_dataLatch (v : Byte) (s : State) : (unpackP v s).dataLatch = s.dataLatch := rfl
@[simp] theorem unpackP_effectiveAddress (v : Byte) (s : State) : (unpackP v s).effectiveAddress = s.effectiveAddress := rfl
@[simp] theorem unpackP_temp (v : Byte) (s : State) : (unpackP v s).temp = s.temp := rfl
@[simp] theorem unpackP_cycles (v : Byte) (s : State) : (unpackP v s).cycles = s.cycles := rfl
@[simp] theorem unpackP_mem (v : Byte) (s : State) : (unpackP v s).mem = s.mem := rfl
@[simp] theorem unpackP_high (v : Byte) (s : State) : (unpackP v s).high = s.high := rfl
@[simp] theorem unpackP_draws (v : Byte) (s : State) : (unpackP v s).draws = s.draws := rfl
@[simp] theorem unpackP_busLog (v : Byte) (s : State) : (unpackP v s).busLog = s.busLog := rfl

/-! ### logTxn -/

@[simp] theorem logTxn_a (txn : BusTxn) (s : State) : (logTxn txn s).a = s.a := rfl
@[simp] theorem logTxn_x (txn : BusTxn) (s : State) : (logTxn txn s).x = s.x := rfl
@[simp] theorem logTxn_y (txn : BusTxn) (s : State) : (logTxn txn s).y = s.y := rfl
@[simp] theorem logTxn_sp (txn : BusTxn) (s : State) : (logTxn txn s).sp = s.sp := rfl
@[simp] theorem logTxn_pc (txn : BusTxn) (s : State) : (logTxn txn s).pc = s.pc := rfl
@[simp] theorem logTxn_flagN (txn : BusTxn) (s : State) : (logTxn txn s).flagN = s.flagN := rfl
@[simp] theorem logTxn_flagV (txn : BusTxn) (s : State) : (logTxn txn s).flagV = s.flagV := rfl
@[simp] theorem logTxn_flagB (txn : BusTxn) (s : State) : (logTxn txn s).flagB = s.flagB := rfl
@[simp] theorem logTxn_flagD (txn : BusTxn) (s : State) : (logTxn txn s).flagD = s.flagD := rfl
@[simp] theorem logTxn_flagI (txn : BusTxn) (s : State) : (logTxn txn s).flagI = s.flagI := rfl
@[simp] theorem logTxn_flagZ (txn : BusTxn) (s : State) : (logTxn txn s).flagZ = s.flagZ := rfl
@[simp] theorem logTxn_flagC (txn : BusTxn) (s : State) : (logTxn txn s).flagC = s.flagC := rfl
@[simp] theorem logTxn_dataLatch (txn : BusTxn) (s : State) : (logTxn txn s).dataLatch = s.dataLatch := rfl
@[simp] theorem logTxn_effectiveAddress (txn : BusTxn) (s : State) : (logTxn txn s).effectiveAddress = s.effectiveAddress := rfl
@[simp] theorem logTxn_temp (txn : BusTxn) (s : State) : (logTxn txn s).temp = s.temp := rfl
@[simp] theorem logTxn_cycles (txn : BusTxn) (s : State) : (logTxn txn s).cycles = s.cycles := rfl
@[simp] theorem logTxn_mem (txn : BusTxn) (s : State) : (logTxn txn s).mem = s.mem := rfl
@[simp] theorem logTxn_high (txn : BusTxn) (s : State) : (logTxn txn s).high = s.high := rfl
@[simp] theorem logTxn_draws (txn : BusTxn) (s : State) : (logTxn txn s).draws = s.draws := rfl
@[simp] theorem logTxn_busLog (txn : BusTxn) (s : State) : (logTxn txn s).busLog = txn :: s.busLog := rfl

/-! ### poke -/

@[simp] theorem poke_a (p : Word) (v : Byte) (s : State) : (poke p v s).a = s.a := by unfold poke; split <;> rfl
@[simp] theorem poke_x (p : Word) (v : Byte) (s : State) : (poke p v s).x = s.x := by unfold poke; split <;> rfl
@[simp] theorem poke_y (p : Word) (v : Byte) (s : State) : (poke p v s).y = s.y := by unfold poke; split <;> rfl
@[simp] theorem poke_sp (p : Word) (v : Byte) (s : State) : (poke p v s).sp = s.sp := by unfold poke; split <;> rfl
@[simp] theorem poke_pc (p : Word) (v : Byte) (s : State) : (poke p v s).pc = s.pc := by unfold poke; split <;> rfl
@[simp] theorem poke_flagN (p : Word) (v : Byte) (s : State) : (poke p v s).flagN = s.flagN := by unfold poke; split <;> rfl
@[simp] theorem poke_flagV (p : Word) (v : Byte) (s : State) : (poke p v s).flagV = s.flagV := by unfold poke; split <;> rfl
@[simp] theorem poke_flagB (p : Word) (v : Byte) (s : State) : (poke p v s).flagB = s.flagB := by unfold poke; split <;> rfl
@[simp] theorem poke_flagD (p : Word) (v : Byte) (s : State) : (poke p v s).flagD = s.flagD := by unfold poke; split <;> rfl
@[simp] theorem poke_flagI (p : Word) (v : Byte) (s : State) : (poke p v s).flagI = s.flagI := by unfold poke; split <;> rfl
@[simp] theorem poke_flagZ (p : Word) (v : Byte) (s : State) : (poke p v s).flagZ = s.flagZ := by unfold poke; split <;> rfl
@[simp] theorem poke_flagC (p : Word) (v : Byte) (s : State) : (poke p v s).flagC = s.flagC := by unfold poke; split <;> rfl
@[simp] theorem poke_dataLatch (p : Word) (v : Byte) (s : State) : (poke p v s).dataLatch = s.dataLatch := by unfold poke; split <;> rfl
@[simp] theorem poke_effectiveAddress (p : Word) (v : Byte) (s : State) : (poke p v s).effectiveAddress = s.effectiveAddress := by unfold poke; split <;> rfl
@[simp] theorem poke_temp (p : Word) (v : Byte) (s : State) : (poke p v s).temp = s.temp := by unfold poke; split <;> rfl
@[simp] theorem poke_cycles (p : Word) (v : Byte) (s : State) : (poke p v s).cycles = s.cycles := by unfold poke; split <;> rfl
@[simp] theorem poke_high (p : Word) (v : Byte) (s : State) : (poke p v s).high = s.high := by unfold poke; split <;> rfl
@[simp] theorem poke_draws (p : Word) (v : Byte) (s : State) : (poke p v s).draws = s.draws := by unfold poke; split <;> rfl
@[simp] theorem poke_busLog (p : Word) (v : Byte) (s : State) : (poke p v s).busLog = s.busLog := by unfold poke; split <;> rfl

/-! ### memRead -/

@[simp] theorem memRead_a (p : Word) (s : State) : (memRead p s).2.a = s.a := by unfold memRead; split <;> rfl
@[simp] theorem memRead_x (p : Word) (s : State) : (memRead p s).2.x = s.x := by unfold memRead; split <;> rfl
@[simp] theorem memRead_y (p : Word) (s : State) : (memRead p s).2.y = s.y := by unfold memRead; split <;> rfl
@[simp] theorem memRead_sp (p : Word) (s : State) : (memRead p s).2.sp = s.sp := by unfold memRead; split <;> rfl
@[simp] theorem memRead_pc (p : Word) (s : State) : (memRead p s).2.pc = s.pc := by unfold memRead; split <;> rfl
@[simp] theorem memRead_flagN (p : Word) (s : State) : (memRead p s).2.flagN = s.flagN := by unfold memRead; split <;> rfl
@[simp] theorem memRead_flagV (p : Word) (s : State) : (memRead p s).2.flagV = s.flagV := by unfold memRead; split <;> rfl
@[simp] theorem memRead_flagB (p : Word) (s : State) : (memRead p s).2.flagB = s.flagB := by unfold memRead; split <;> rfl
@[simp] theorem memRead_flagD (p : Word) (s : State) : (memRead p s).2.flagD = s.flagD := by unfold memRead; split <;> rfl
@[simp] theorem memRead_flagI (p : Word) (s : State) : (memRead p s).2.flagI = s.flagI := by unfold memRead; split <;> rfl
@[simp] theorem memRead_flagZ (p : Word) (s : State) : (memRead p s).2.flagZ = s.flagZ := by unfold memRead; split <;> rfl
@[simp] theorem memRead_flagC (p : Word) (s : State) : (memRead p s).2.flagC = s.flagC := by unfold memRead; split <;> rfl
@[simp] theorem memRead_dataLatch (p : Word) (s : State) : (memRead p s).2.dataLatch = s.dataLatch := by unfold memRead; split <;> rfl
@[simp] theorem memRead_effectiveAddress (p : Word) (s : State) : (memRead p s).2.effectiveAddress = s.effectiveAddress := by unfold memRead; split <;> rfl
@[simp] theorem memRead_temp (p : Word) (s : State) : (memRead p s).2.temp = s.temp := by unfold memRead; split <;> rfl
@[simp] theorem memRead_cycles (p : Word) (s : State) : (memRead p s).2.cycles = s.cycles := by unfold memRead; split <;> rfl
@[simp] theorem memRead_mem (p : Word) (s : State) : (memRead p s).2.mem = s.mem := by unfold memRead; split <;> rfl
@[simp] theorem memRead_high (p : Word) (s : State) : (memRead p s).2.high = s.high := by unfold memRead; split <;> rfl
@[simp] theorem memRead_busLog (p : Word) (s : State) : (memRead p s).2.busLog = .read p (memRead p s).1 :: s.busLog := by unfold memRead; split <;> rfl

/-! ### memWrite -/

@[simp] theorem memWrite_a (p : Word) (v : Byte) (s : State) : (memWrite p v s).a = s.a := by simp [memWrite]
@[simp] theorem memWrite_x (p : Word) (v : Byte) (s : State) : (memWrite p v s).x = s.x := by simp [memWrite]
@[simp] theorem memWrite_y (p : Word) (v : Byte) (s : State) : (memWrite p v s).y = s.y := by simp [memWrite]
@[simp] theorem memWrite_sp (p : Word) (v : Byte) (s : State) : (memWrite p v s).sp = s.sp := by simp [memWrite]
@[simp] theorem memWrite_pc (p : Word) (v : Byte) (s : State) : (memWrite p v s).pc = s.pc := by simp [memWrite]
@[simp] theorem memWrite_flagN (p : Word) (v : Byte) (s : State) : (memWrite p v s).flagN = s.flagN := by simp [memWrite]
@[simp] theorem memWrite_flagV (p : Word) (v : Byte) (s : State) : (memWrite p v s).flagV = s.flagV := by simp [memWrite]
@[simp] theorem memWrite_flagB (p : Word) (v : Byte) (s : State) : (memWrite p v s).flagB = s.flagB := by simp [memWrite]
@[simp] theorem memWrite_flagD (p : Word) (v : Byte) (s : State) : (memWrite p v s).flagD = s.flagD := by simp [memWrite]
@[simp] theorem memWrite_flagI (p : Word) (v : Byte) (s : State) : (memWrite p v s).flagI = s.flagI := by simp [memWrite]
@[simp] theorem memWrite_flagZ (p : Word) (v : Byte) (s : State) : (memWrite p v s).flagZ = s.flagZ := by simp [memWrite]
@[simp] theorem memWrite_flagC (p : Word) (v : Byte) (s : State) : (memWrite p v s).flagC = s.flagC := by simp [memWrite]
@[simp] theorem memWrite_dataLatch (p : Word) (v : Byte) (s : State) : (memWrite p v s).dataLatch = s.dataLatch := by simp [memWrite]
@[simp] theorem memWrite_effectiveAddress (p : Word) (v : Byte) (s : State) : (memWrite p v s).effectiveAddress = s.effectiveAddress := by simp [memWrite]
@[simp] theorem memWrite_temp (p : Word) (v : Byte) (s : State) : (memWrite p v s).temp = s.temp := by simp [memWrite]
@[simp] theorem memWrite_cycles (p : Word) (v : Byte) (s : State) : (memWrite p v s).cycles = s.cycles := by simp [memWrite]
@[simp] theorem memWrite_mem (p : Word) (v : Byte) (s : State) : (memWrite p v s).mem = (poke p v s).mem := by simp [memWrite]
@[simp] theorem memWrite_high (p : Word) (v : Byte) (s : State) : (memWrite p v s).high = s.high := by simp [memWrite]
@[simp] theorem memWrite_draws (p : Word) (v : Byte) (s : State) : (memWrite p v s).draws = s.draws := by simp [memWrite]
@[simp] theorem memWrite_busLog (p : Word) (v : Byte) (s : State) : (memWrite p v s).busLog = .write p v :: s.busLog := by simp [memWrite]

/-! ### push -/

@[simp] theorem push_a (v : Byte) (s : State) : (push v s).a = s.a := by simp [push]
@[simp] theorem push_x (v : Byte) (s : State) : (push v s).x = s.x := by simp [push]
@[simp] theorem push_y (v : Byte) (s : State) : (push v s).y = s.y := by simp [push]
@[simp] theorem push_sp (v : Byte) (s : State) : (push v s).sp = s.sp - 1#8 := by simp [push]
@[simp] theorem push_pc (v : Byte) (s : State) : (push v s).pc = s.pc := by simp [push]
@[simp] theorem push_flagN (v : Byte) (s : State) : (push v s).flagN = s.flagN := by simp [push]
@[simp] theorem push_flagV (v : Byte) (s : State) : (push v s).flagV = s.flagV := by simp [push]
@[simp] theorem push_flagB (v : Byte) (s : State) : (push v s).flagB = s.flagB := by simp [push]
@[simp] theorem push_flagD (v : Byte) (s : State) : (push v s).flagD = s.flagD := by simp [push]
@[simp] theorem push_flagI (v : Byte) (s : State) : (push v s).flagI = s.flagI := by simp [push]
@[simp] theorem push_flagZ (v : Byte) (s : State) : (push v s).flagZ = s.flagZ := by simp [push]
@[simp] theorem push_flagC (v : Byte) (s : State) : (push v s).flagC = s.flagC := by simp [push]
@[simp] theorem push_dataLatch (v : Byte) (s : State) : (push v s).dataLatch = s.dataLatch := by simp [push]
@[simp] theorem push_effectiveAddress (v : Byte) (s : State) : (push v s).effectiveAddress = s.effectiveAddress := by simp [push]
@[simp] theorem push_temp (v : Byte) (s : State) : (push v s).temp = s.temp := by simp [push]
@[simp] theorem push_cycles (v : Byte) (s : State) : (push v s).cycles = s.cycles := by simp [push]
@[simp] theorem push_mem (v : Byte) (s : State) : (push v s).mem = (poke (stackAddr s.sp) v s).mem := by simp [push]
@[simp] theorem push_high (v : Byte) (s : State) : (push v s).high = s.high := by simp [push]
@[simp] theorem push_draws (v : Byte) (s : State) : (push v s).draws = s.draws := by simp [push]
@[simp] theorem push_busLog (v : Byte) (s : State) : (push v s).busLog = .write (stackAddr s.sp) v :: s.busLog := by simp [push]

/-! ### pop -/

@[simp] theorem pop_a (s : State) : (pop s).2.a = s.a := by simp [pop]
@[simp] theorem pop_x (s : State) : (pop s).2.x = s.x := by simp [pop]
@[simp] theorem pop_y (s : State) : (pop s).2.y = s.y := by simp [pop]
@[simp] theorem pop_sp (s : State) : (pop s).2.sp = s.sp + 1#8 := by simp [pop]
@[simp] theorem pop_pc (s : State) : (pop s).2.pc = s.pc := by simp [pop]
@[simp] theorem pop_flagN (s : State) : (pop s).2.flagN = s.flagN := by simp [pop]
@[simp] theorem pop_flagV (s : State) : (pop s).2.flagV = s.flagV := by simp [pop]
@[simp] theorem pop_flagB (s : State) : (pop s).2.flagB = s.flagB := by simp [pop]
@[simp] theorem pop_flagD (s : State) : (pop s).2.flagD = s.flagD := by simp [pop]
@[simp] theorem pop_flagI (s : State) : (pop s).2.flagI = s.flagI := by simp [pop]
@[simp] theorem pop_flagZ (s : State) : (pop s).2.flagZ = s.flagZ := by simp [pop]
@[simp] theorem pop_flagC (s : State) : (pop s).2.flagC = s.flagC := by simp [pop]
@[simp] theorem pop_dataLatch (s : State) : (pop s).2.dataLatch = s.dataLatch := by simp [pop]
@[simp] theorem pop_effectiveAddress (s : State) : (pop s).2.effectiveAddress = s.effectiveAddress := by simp [pop]
@[simp] theorem pop_temp (s : State) : (pop s).2.temp = s.temp := by simp [pop]
@[simp] theorem pop_cycles (s : State) : (pop s).2.cycles = s.cycles := by simp [pop]
@[simp] theorem pop_mem (s : State) : (pop s).2.mem = s.mem := by simp [pop]
@[simp] theorem pop_high (s : State) : (pop s).2.high = s.high := by simp [pop]
@[simp] theorem pop_busLog (s : State) : (pop s).2.busLog = .read (stackAddr (s.sp + 1#8)) (pop s).1 :: s.busLog := by simp [pop]

/-! ### retire -/

@[simp] theorem retire_a (cost : Nat) (s : State) : (retire cost s).a = s.a := rfl
@[simp] theorem retire_x (cost : Nat) (s : State) : (retire cost s).x = s.x := rfl
@[simp] theorem retire_y (cost : Nat) (s : State) : (retire cost s).y = s.y := rfl
@[simp] theorem retire_sp (cost : Nat) (s : State) : (retire cost s).sp = s.sp := rfl
@[simp] theorem retire_pc (cost : Nat) (s : State) : (retire cost s).pc = s.pc := rfl
@[simp] theorem retire_flagN (cost : Nat) (s : State) : (retire cost s).flagN = s.flagN := rfl
@[simp] theorem retire_flagV (cost : Nat) (s : State) : (retire cost s).flagV = s.flagV := rfl
@[simp] theorem retire_flagB (cost : Nat) (s : State) : (retire cost s).flagB = s.flagB := rfl
@[simp] theorem retire_flagD (cost : Nat) (s : State) : (retire cost s).flagD = s.flagD := rfl
@[simp] theorem retire_flagI (cost : Nat) (s : State) : (retire cost s).flagI = s.flagI := rfl
@[simp] theorem retire_flagZ (cost : Nat) (s : State) : (retire cost s).flagZ = s.flagZ := rfl
@[simp] theorem retire_flagC (cost : Nat) (s : State) : (retire cost s).flagC = s.flagC := rfl
@[simp] theorem retire_dataLatch (cost : Nat) (s : State) : (retire cost s).dataLatch = s.dataLatch := rfl
@[simp] theorem retire_effectiveAddress (cost : Nat) (s : State) : (retire cost s).effectiveAddress = s.effectiveAddress := rfl
@[simp] theorem retire_temp (cost : Nat) (s : State) : (retire cost s).temp = Config.freeWord s.draws := rfl
@[simp] theorem retire_cycles (cost : Nat) (s : State) : (retire cost s).cycles = s.cycles + cost := rfl
@[simp] theorem retire_mem (cost : Nat) (s : State) : (retire cost s).mem = s.mem := rfl
@[simp] theorem retire_high (cost : Nat) (s : State) : (retire cost s).high = s.high := rfl
@[simp] theorem retire_draws (cost : Nat) (s : State) : (retire cost s).draws = s.draws + 1 := rfl
@[simp] theorem retire_busLog (cost : Nat) (s : State) : (retire cost s).busLog = s.busLog := rfl

/-! ### addToA -/

@[simp] theorem addToA_a (m : Byte) (s : State) : (addToA m s).a = low8 (sum9 s.a m s.flagC) := rfl
@[simp] theorem addToA_x (m : Byte) (s : State) : (addToA m s).x = s.x := rfl
@[simp] theorem addToA_y (m : Byte) (s : State) : (addToA m s).y = s.y := rfl
@[simp] theorem addToA_sp (m : Byte) (s : State) : (addToA m s).sp = s.sp := rfl
@[simp] theorem addToA_pc (m : Byte) (s : State) : (addToA m s).pc = s.pc := rfl
@[simp] theorem addToA_flagN (m : Byte) (s : State) : (addToA m s).flagN = bitOf (low8 (sum9 s.a m s.flagC)) 7 := rfl
@[simp] theorem addToA_flagV (m : Byte) (s : State) : (addToA m s).flagV = overflow s.a m (low8 (sum9 s.a m s.flagC)) := rfl
@[simp] theorem addToA_flagB (m : Byte) (s : State) : (addToA m s).flagB = s.flagB := rfl
@[simp] theorem addToA_flagD (m : Byte) (s : State) : (addToA m s).flagD = s.flagD := rfl
@[simp] theorem addToA_flagI (m : Byte) (s : State) : (addToA m s).flagI = s.flagI := rfl
@[simp] theorem addToA_flagZ (m : Byte) (s : State) : (addToA m s).flagZ = (low8 (sum9 s.a m s.flagC) == 0x00#8) := rfl
@[simp] theorem addToA_flagC (m : Byte) (s : State) : (addToA m s).flagC = (sum9 s.a m s.flagC).getLsbD 8 := rfl
@[simp] theorem addToA_dataLatch (m : Byte) (s : State) : (addToA m s).dataLatch = s.dataLatch := rfl
@[simp] theorem addToA_effectiveAddress (m : Byte) (s : State) : (addToA m s).effectiveAddress = s.effectiveAddress := rfl
@[simp] theorem addToA_temp (m : Byte) (s : State) : (addToA m s).temp = s.temp := rfl
@[simp] theorem addToA_cycles (m : Byte) (s : State) : (addToA m s).cycles = s.cycles := rfl
@[simp] theorem addToA_mem (m : Byte) (s : State) : (addToA m s).mem = s.mem := rfl
@[simp] theorem addToA_high (m : Byte) (s : State) : (addToA m s).high = s.high := rfl
@[simp] theorem addToA_draws (m : Byte) (s : State) : (addToA m s).draws = s.draws := rfl
@[simp] theorem addToA_busLog (m : Byte) (s : State) : (addToA m s).busLog = s.busLog := rfl

/-! ### compareWith -/

@[simp] theorem compareWith_a (reg data : Byte) (s : State) : (compareWith reg data s).a = s.a := rfl
@[simp] theorem compareWith_x (reg data : Byte) (s : State) : (compareWith reg data s).x = s.x := rfl
@[simp] theorem compareWith_y (reg data : Byte) (s : State) : (compareWith reg data s).y = s.y := rfl
@[simp] theorem compareWith_sp (reg data : Byte) (s : State) : (compareWith reg data s).sp = s.sp := rfl
@[simp] theorem compareWith_pc (reg data : Byte) (s : State) : (compareWith reg data s).pc = s.pc := rfl
@[simp] theorem compareWith_flagN (reg data : Byte) (s : State) : (compareWith reg data s).flagN = bitOf (low8 (diff9 reg data)) 7 := rfl
@[simp] theorem compareWith_flagV (reg data : Byte) (s : State) : (compareWith reg data s).flagV = s.flagV := rfl
@[simp] theorem compareWith_flagB (reg data : Byte) (s : State) : (compareWith reg data s).flagB = s.flagB := rfl
@[simp] theorem compareWith_flagD (reg data : Byte) (s : State) : (compareWith reg data s).flagD = s.flagD := rfl
@[simp] theorem compareWith_flagI (reg data : Byte) (s : State) : (compareWith reg data s).flagI = s.flagI := rfl
@[simp] theorem compareWith_flagZ (reg data : Byte) (s : State) : (compareWith reg data s).flagZ = (low8 (diff9 reg data) == 0x00#8) := rfl
@[simp] theorem compareWith_flagC (reg data : Byte) (s : State) : (compareWith reg data s).flagC = decide (data.toNat ≤ reg.toNat) := rfl
@[simp] theorem compareWith_dataLatch (reg data : Byte) (s : State) : (compareWith reg data s).dataLatch = s.dataLatch := rfl
@[simp] theorem compareWith_effectiveAddress (reg data : Byte) (s : State) : (compareWith reg data s).effectiveAddress = s.effectiveAddress := rfl
@[simp] theorem compareWith_temp (reg data : Byte) (s : State) : (compareWith reg data s).temp = s.temp := rfl
@[simp] theorem compareWith_cycles (reg data : Byte) (s : State) : (compareWith reg data s).cycles = s.cycles := rfl
@[simp] theorem compareWith_mem (reg data : Byte) (s : State) : (compareWith reg data s).mem = s.mem := rfl
@[simp] theorem compareWith_high (reg data : Byte) (s : State) : (compareWith reg data s).high = s.high := rfl
@[simp] theorem compareWith_draws (reg data : Byte) (s : State) : (compareWith reg data s).draws = s.draws := rfl
@[simp] theorem compareWith_busLog (reg data : Byte) (s : State) : (compareWith reg data s).busLog = s.busLog := rfl

/-! ### latchFrom -/

@[simp] theorem latchFrom_a (p : Word) (s : State) : (latchFrom p s).a = s.a := by simp [latchFrom]
@[simp] theorem latchFrom_x (p : Word) (s : State) : (latchFrom p s).x = s.x := by simp [latchFrom]
@[simp] theorem latchFrom_y (p : Word) (s : State) : (latchFrom p s).y = s.y := by simp [latchFrom]
@[simp] theorem latchFrom_sp (p : Word) (s : State) : (latchFrom p s).sp = s.sp := by simp [latchFrom]
@[simp] theorem latchFrom_pc (p : Word) (s : State) : (latchFrom p s).pc = s.pc := by simp [latchFrom]
@[simp] theorem latchFrom_flagN (p : Word) (s : State) : (latchFrom p s).flagN = s.flagN := by simp [latchFrom]
@[simp] theorem latchFrom_flagV (p : Word) (s : State) : (latchFrom p s).flagV = s.flagV := by simp [latchFrom]
@[simp] theorem latchFrom_flagB (p : Word) (s : State) : (latchFrom p s).flagB = s.flagB := by simp [latchFrom]
@[simp] theorem latchFrom_flagD (p : Word) (s : State) : (latchFrom p s).flagD = s.flagD := by simp [latchFrom]
@[simp] theorem latchFrom_flagI (p : Word) (s : State) : (latchFrom p s).flagI = s.flagI := by simp [latchFrom]
@[simp] theorem latchFrom_flagZ (p : Word) (s : State) : (latchFrom p s).flagZ = s.flagZ := by simp [latchFrom]
@[simp] theorem latchFrom_flagC (p : Word) (s : State) : (latchFrom p s).flagC = s.flagC := by simp [latchFrom]
@[simp] theorem latchFrom_effectiveAddress (p : Word) (s : State) : (latchFrom p s).effectiveAddress = p := by simp [latchFrom]
@[simp] theorem latchFrom_temp (p : Word) (s : State) : (latchFrom p s).temp = s.temp := by simp [latchFrom]
@[simp] theorem latchFrom_cycles (p : Word) (s : State) : (latchFrom p s).cycles = s.cycles := by simp [latchFrom]
@[simp] theorem latchFrom_mem (p : Word) (s : State) : (latchFrom p s).mem = s.mem := by simp [latchFrom]
@[simp] theorem latchFrom_high (p : Word) (s : State) : (latchFrom p s).high = s.high := by simp [latchFrom]

/-! ### readPair -/

@[simp] theorem readPair_a (p q : Word) (s : State) : (readPair p q s).2.a = s.a := by simp [readPair]
@[simp] theorem readPair_x (p q : Word) (s : State) : (readPair p q s).2.x = s.x := by simp [readPair]
@[simp] theorem readPair_y (p q : Word) (s : State) : (readPair p q s).2.y = s.y := by simp [readPair]
@[simp] theorem readPair_sp (p q : Word) (s : State) : (readPair p q s).2.sp = s.sp := by simp [readPair]
@[simp] theorem readPair_pc (p q : Word) (s : State) : (readPair p q s).2.pc = s.pc := by simp [readPair]
@[simp] theorem readPair_flagN (p q : Word) (s : State) : (readPair p q s).2.flagN = s.flagN := by simp [readPair]
@[simp] theorem readPair_flagV (p q : Word) (s : State) : (readPair p q s).2.flagV = s.flagV := by simp [readPair]
@[simp] theorem readPair_flagB (p q : Word) (s : State) : (readPair p q s).2.flagB = s.flagB := by simp [readPair]
@[simp] theorem readPair_flagD (p q : Word) (s : State) : (readPair p q s).2.flagD = s.flagD := by simp [readPair]
@[simp] theorem readPair_flagI (p q : Word) (s : State) : (readPair p q s).2.flagI = s.flagI := by simp [readPair]
@[simp] theorem readPair_flagZ (p q : Word) (s : State) : (readPair p q s).2.flagZ = s.flagZ := by simp [readPair]
@[simp] theorem readPair_flagC (p q : Word) (s : State) : (readPair p q s).2.flagC = s.flagC := by simp [readPair]
@[simp] theorem readPair_dataLatch (p q : Word) (s : State) : (readPair p q s).2.dataLatch = s.dataLatch := by simp [readPair]
@[simp] theorem readPair_effectiveAddress (p q : Word) (s : State) : (readPair p q s).2.effectiveAddress = s.effectiveAddress := by simp [readPair]
@[simp] theorem readPair_temp (p q : Word) (s : State) : (readPair p q s).2.temp = s.temp := by simp [readPair]
@[simp] theorem readPair_cycles (p q : Word) (s : State) : (readPair p q s).2.cycles = s.cycles := by simp [readPair]
@[simp] theorem readPair_mem (p q : Word) (s : State) : (readPair p q s).2.mem = s.mem := by simp [readPair]
@[simp] theorem readPair_high (p q : Word) (s : State) : (readPair p q s).2.high = s.high := by simp [readPair]

end Sys2Proof.Machine
end

