-- ==== Sys2Proof/Laws/Ops.lean ====
section
/-!
SUPPORT. For each shared operation over the bus, the stack and the step, what it can do, said once.
-/
namespace Sys2Proof.Machine

/-! ### Cells and peeks -/

/-- Below `0x2000` every address has its byte of RAM, whatever is installed above (20_memory.md R44). -/
theorem cellOf_low (high : HighRegion) {p : Word} (h : p.toNat < 0x2000) :
    cellOf high p = some (p &&& Config.ramMask).toNat := by
  simp [cellOf, Config.ramMirrorLimit, h]

/-- The bus holds only cells that exist. -/
theorem cellOf_exists {high : HighRegion} {p : Word} {c : Nat} (h : cellOf high p = some c) :
    Memory.cellExists c = true := by
  unfold cellOf at h
  split at h
  · have hc : c = (p &&& Config.ramMask).toNat := by simpa using h.symm
    have : (p &&& Config.ramMask).toNat ≤ Config.ramMask.toNat := by
      rw [BitVec.toNat_and]; exact Nat.and_le_right
    have hm : Config.ramMask.toNat = 0x07FF := rfl
    simp [Memory.cellExists]; omega
  · next hp =>
    cases high <;> simp at h
    have := p.isLt
    simp [Config.ramMirrorLimit] at hp
    simp [Memory.cellExists]; omega

/-- The stack page is RAM whatever is installed above (10_state.md R11). -/
theorem stackAddr_low (sp : Byte) : (stackAddr sp).toNat < 0x2000 := by
  have h : stackAddr sp ≤ 0x01FF#16 := by revert sp; decide +kernel
  exact Nat.lt_of_le_of_lt h (by decide)

/-- A zero-page address is RAM. -/
theorem zext16_low (b : Byte) : (zext16 b).toNat < 0x2000 := by
  have : (zext16 b).toNat = b.toNat := by simp [zext16]; omega
  have := b.isLt
  omega

/-- Poking an address makes every address of the same byte read the value, and no other. -/
theorem peek_poke (s : State) (p q : Word) (v : Byte) :
    peek (poke p v s) q =
      if (cellOf s.high p).isSome ∧ cellOf s.high p = cellOf s.high q then some v else peek s q := by
  simp only [peek, poke_high]
  cases hp : cellOf s.high p with
  | none => simp [poke, hp]
  | some c =>
    cases hq : cellOf s.high q with
    | none => simp
    | some d =>
      by_cases h : c = d
      · subst h; simp [poke, hp]
      · simp [poke, hp, h, Memory.read_write_ne _ v (Ne.symm h)]

/-- A poke keeps the canonical form. -/
theorem poke_wf {s : State} (p : Word) (v : Byte) (h : Memory.wf s.mem = true) :
    Memory.wf (poke p v s).mem = true := by
  unfold poke
  split
  · next c hc => exact Memory.wf_write v (cellOf_exists hc) h
  · exact h

/-! ### Bus -/

/-- A read of an address whose byte the bus holds: that byte, and nothing but the record of it (R44). -/
theorem memRead_held {s : State} {p : Word} {v : Byte} (h : peek s p = some v) :
    memRead p s = (v, logTxn (.read p v) s) := by
  unfold peek at h
  cases hc : cellOf s.high p with
  | none => simp [hc] at h
  | some c =>
    simp only [hc, Option.map_some, Option.some.injEq] at h
    simp [memRead, hc, h]

/-- A read changes nothing but the model's own record and counter (R40). -/
theorem memRead_frame (p : Word) (s : State) : (memRead p s).2 = { s with
    draws := (memRead p s).2.draws, busLog := .read p (memRead p s).1 :: s.busLog } := by
  unfold memRead; split <;> rfl

/-- A read of an address where the bus holds no byte: HighRegion's answer (R46). -/
theorem memRead_open {s : State} {p : Word} (h : cellOf s.high p = none) :
    memRead p s = (highValue p s, logTxn (.read p (highValue p s)) { s with draws := s.draws + 1 }) := by
  simp [memRead, h]

@[simp] theorem peek_memRead (p q : Word) (s : State) : peek (memRead p s).2 q = peek s q := by simp [peek]

@[simp] theorem peek_memWrite (p q : Word) (v : Byte) (s : State) :
    peek (memWrite p v s) q = peek (poke p v s) q := by simp [peek]

@[simp] theorem peek_push (q : Word) (v : Byte) (s : State) :
    peek (push v s) q = peek (poke (stackAddr s.sp) v s) q := by simp [peek]

@[simp] theorem peek_pop (q : Word) (s : State) : peek (pop s).2 q = peek s q := by simp [peek]

@[simp] theorem peek_retire (q : Word) (n : Nat) (s : State) : peek (retire n s) q = peek s q := by simp [peek]

theorem memWrite_wf {s : State} (p : Word) (v : Byte) (h : Memory.wf s.mem = true) :
    Memory.wf (memWrite p v s).mem = true := by simpa using poke_wf p v h

/-! ### Stack -/

/-- The cell behind a stack slot, whatever is installed above. -/
theorem cellOf_stackAddr (high : HighRegion) (sp : Byte) : cellOf high (stackAddr sp) = some (256 + sp.toNat) := by
  rw [cellOf_low high (stackAddr_low sp)]; congr 1; revert sp; decide +kernel

/-- Everything `Push` does (45_stack_flags_system.md R200). -/
theorem push_eq (v : Byte) (s : State) : push v s = { s with
    mem := Memory.write s.mem (256 + s.sp.toNat) v, sp := s.sp - 1#8,
    busLog := .write (stackAddr s.sp) v :: s.busLog } := by
  simp [push, memWrite, poke, cellOf_stackAddr, logTxn]

/-- Everything `Pop` does (45_stack_flags_system.md R201). -/
theorem pop_eq (s : State) : pop s = (Memory.read s.mem (256 + (s.sp + 1#8).toNat), { s with
    sp := s.sp + 1#8,
    busLog := .read (stackAddr (s.sp + 1#8)) (Memory.read s.mem (256 + (s.sp + 1#8).toNat)) :: s.busLog }) := by
  simp [pop, memRead, cellOf_stackAddr, logTxn]

/-- `Pop` answers the byte at the slot above `sp` (45_stack_flags_system.md R201). -/
theorem pop_value {s : State} {v : Byte} (h : peek s (stackAddr (s.sp + 1#8)) = some v) : (pop s).1 = v := by
  have h' : peek { s with sp := s.sp + 1#8 } (stackAddr (s.sp + 1#8)) = some v := h
  simp [pop, memRead_held h']

theorem push_wf {s : State} (v : Byte) (h : Memory.wf s.mem = true) : Memory.wf (push v s).mem = true := by
  simpa using poke_wf (stackAddr s.sp) v h

/-! ### The trap, its return, and the end of a step -/

/-- What the entry of `BRK` leaves in the registers (60_exceptions.md R236). -/
theorem enterBreak_registers (s : State) :
    (enterBreak s).a = s.a ∧ (enterBreak s).x = s.x ∧ (enterBreak s).y = s.y ∧
      (enterBreak s).sp = s.sp - 3#8 ∧ (enterBreak s).flagI = true ∧ (enterBreak s).flagB = false ∧
      (enterBreak s).flagN = s.flagN ∧ (enterBreak s).flagV = s.flagV ∧ (enterBreak s).flagD = s.flagD ∧
      (enterBreak s).flagZ = s.flagZ ∧ (enterBreak s).flagC = s.flagC := by
  simp [enterBreak, BitVec.sub_sub]

/-- What the entry of `BRK` leaves in memory: three stack slots (60_exceptions.md R236). -/
theorem enterBreak_mem (s : State) : (enterBreak s).mem =
    Memory.write (Memory.write (Memory.write s.mem (256 + s.sp.toNat) (highByte (s.pc + 1#16)))
      (256 + (s.sp - 1#8).toNat) (lowByte (s.pc + 1#16)))
      (256 + (s.sp - 2#8).toNat) (packP { s with flagI := true, flagB := true }) := by
  simp [enterBreak, push_eq, BitVec.sub_sub, packP]

/-- The entry of `BRK` keeps the canonical form. -/
theorem enterBreak_wf {s : State} (h : Memory.wf s.mem = true) : Memory.wf (enterBreak s).mem = true := by
  simp only [enterBreak, memRead_mem]
  exact push_wf _ (push_wf _ (push_wf _ h))

/-- The return of `RTI` stores nothing. -/
theorem returnFromBreak_mem (s : State) : (returnFromBreak s).mem = s.mem := by simp [returnFromBreak]

/-- An instruction completes with its body's state and the cost of the formula (R93). -/
theorem complete_eq (base : Nat) (resolved : State × Bool) (body : State → Executed) :
    complete base resolved body =
      .next (retire (stepCost base resolved.2 (body resolved.1).instrExtra (body resolved.1).branchExtra)
        (body resolved.1).state) := rfl

/-- So it always completes. -/
theorem complete_isNext (base : Nat) (resolved : State × Bool) (body : State → Executed) :
    ∃ t, complete base resolved body = .next t := ⟨_, rfl⟩

/-! ### Fetch -/

/-- Fetching a byte that the bus holds. -/
theorem fetch8_held {s : State} {v : Byte} (h : peek s s.pc = some v) :
    fetch8 s = (v, { logTxn (.read s.pc v) s with pc := s.pc + 1#16 }) := by
  simp [fetch8, memRead_held h]

end Sys2Proof.Machine
end

