-- ==== Sys2Proof/Laws/Fetch.lean ====
section
/-!
SUPPORT. What fetching at pc can do, whatever the bus answers.
-/
namespace Sys2Proof.Machine

@[simp] theorem fetchBytes_zero (s : State) : fetchBytes 0 s = ([], s) := rfl

@[simp] theorem fetchBytes_succ (n : Nat) (s : State) : fetchBytes (n + 1) s =
    ((fetch8 s).1 :: (fetchBytes n (fetch8 s).2).1, (fetchBytes n (fetch8 s).2).2) := rfl

@[simp] theorem fetchBytes_length (n : Nat) (s : State) : (fetchBytes n s).1.length = n := by
  induction n generalizing s with
  | zero => rfl
  | succ n ih => simp [ih]

/-- One fetch is one read, and `pc` one further. -/
theorem fetch8_frame (s : State) : (fetch8 s).2 =
    { s with pc := s.pc + 1#16, draws := (fetch8 s).2.draws, busLog := .read s.pc (fetch8 s).1 :: s.busLog } := by
  unfold fetch8 memRead
  split <;> rfl

/-- `n` fetches are `n` reads at successive addresses, and `pc` past them; nothing else but `draws` changes. -/
theorem fetchBytes_frame (n : Nat) (s : State) : (fetchBytes n s).2 =
    { s with
      pc := s.pc + BitVec.ofNat 16 n, draws := (fetchBytes n s).2.draws,
      busLog := ((fetchBytes n s).1.mapIdx fun k b => BusTxn.read (s.pc + BitVec.ofNat 16 k) b).reverse
        ++ s.busLog } := by
  induction n generalizing s with
  | zero => simp
  | succ n ih =>
    have next (k : Nat) : s.pc + 1#16 + BitVec.ofNat 16 k = s.pc + BitVec.ofNat 16 (k + 1) := by
      rw [BitVec.add_assoc, Nat.add_comm k, BitVec.ofNat_add]
    rw [fetchBytes_succ, ih, fetch8_frame]
    simp [next]

/-- What stands at an address depends on the memory and on what is attached, on nothing else. -/
theorem bytesAt_congr {s t : State} (bytes : List Byte) (addr : Word) (hm : t.mem = s.mem) (hh : t.high = s.high) :
    bytesAt t addr bytes = bytesAt s addr bytes := by
  induction bytes generalizing addr with
  | nil => rfl
  | cons b rest ih => simp [bytesAt, ih, peek, hm, hh]

end Sys2Proof.Machine
end

