-- ==== Sys2Proof/Laws/Operands.lean ====
section
/-!
SUPPORT. What the latching read and the pointer read can do, said once for the resolvers that share them.
-/
namespace Sys2Proof.Machine

/-- What a read answers depends only on the bus: the memory, HighRegion, the draws and the transactions so far. -/
theorem memRead_value_congr {s t : State} (p : Word) (hm : t.mem = s.mem) (hh : t.high = s.high)
    (hd : t.draws = s.draws) (hb : t.busLog = s.busLog) : (memRead p t).1 = (memRead p s).1 := by
  unfold memRead
  rw [hh]
  cases cellOf s.high p with
  | none => simp [highValue, hh, hd, hb]
  | some c => simp [hm]

/-- The data latch takes what a read of the effective address answers. -/
theorem latchFrom_dataLatch (p : Word) (s : State) : (latchFrom p s).dataLatch = (memRead p s).1 := by
  simp only [latchFrom]
  exact memRead_value_congr p rfl rfl rfl rfl

/-- Where the bus holds the byte, that byte. -/
theorem latchFrom_held {s : State} {p : Word} {v : Byte} (h : peek s p = some v) :
    (latchFrom p s).dataLatch = v := by
  rw [latchFrom_dataLatch, memRead_held h]

/-- Both pointer bytes held by the bus: the pointer, low byte first, and two recorded reads. -/
theorem readPair_held {s : State} {p q : Word} {lo hi : Byte} (hp : peek s p = some lo) (hq : peek s q = some hi) :
    readPair p q s = (joinBytes hi lo, logTxn (.read q hi) (logTxn (.read p lo) s)) := by
  have hq' : peek (logTxn (.read p lo) s) q = some hi := by simpa [peek] using hq
  simp [readPair, memRead_held hp, memRead_held hq']

@[simp] theorem peek_latchFrom (p q : Word) (s : State) : peek (latchFrom p s) q = peek s q := by simp [peek]

@[simp] theorem peek_readPair (p q r : Word) (s : State) : peek (readPair p q s).2 r = peek s r := by simp [peek]

/-- No resolver stores. -/
theorem resolveMode_mem (m : Mode) (o : Operand) (s : State) : (resolveMode m o s).1.mem = s.mem := by
  cases m <;> simp [resolveMode, resolveImp, resolveAcc, resolveImm, resolveZp, resolveZpx, resolveZpy, resolveAbs,
    resolveAbx, resolveAby, resolveInd, resolveIzx, resolveIzy, resolveRel]

end Sys2Proof.Machine
end

