-- ==== Sys2Proof/Laws/PerInstr.lean ====
section
/-!
SUPPORT. A statement for every instruction as syntax, one lemma per constructor: an instruction's encoding is one opcode
byte and the operand bytes of its mode, one to three bytes in all (30_encoding.md R70, R73).
-/
namespace Sys2Proof.Laws.EncodeLength

/-- The length of an instruction's encoding (30_encoding.md R70, R73). -/
def Statement (i : Instr) : Prop :=
  (encode i).length = 1 + i.mode.operandBytes ∧ (encode i).length ≤ 3

theorem of_length {i : Instr} (h : (encode i).length = 1 + i.mode.operandBytes) : Statement i := by
  refine ⟨h, ?_⟩
  have : i.mode.operandBytes ≤ 2 := by cases i.mode <;> decide
  omega

theorem ldaImm (operand : Byte) : Statement (.ldaImm operand) := of_length rfl
theorem ldaZp (operand : Byte) : Statement (.ldaZp operand) := of_length rfl
theorem ldaZpx (operand : Byte) : Statement (.ldaZpx operand) := of_length rfl
theorem ldaAbs (operand : Word) : Statement (.ldaAbs operand) := of_length rfl
theorem ldaAbx (operand : Word) : Statement (.ldaAbx operand) := of_length rfl
theorem ldaAby (operand : Word) : Statement (.ldaAby operand) := of_length rfl
theorem ldaIzx (operand : Byte) : Statement (.ldaIzx operand) := of_length rfl
theorem ldaIzy (operand : Byte) : Statement (.ldaIzy operand) := of_length rfl
theorem ldxImm (operand : Byte) : Statement (.ldxImm operand) := of_length rfl
theorem ldxZp (operand : Byte) : Statement (.ldxZp operand) := of_length rfl
theorem ldxZpy (operand : Byte) : Statement (.ldxZpy operand) := of_length rfl
theorem ldxAbs (operand : Word) : Statement (.ldxAbs operand) := of_length rfl
theorem ldxAby (operand : Word) : Statement (.ldxAby operand) := of_length rfl
theorem ldyImm (operand : Byte) : Statement (.ldyImm operand) := of_length rfl
theorem ldyZp (operand : Byte) : Statement (.ldyZp operand) := of_length rfl
theorem ldyZpx (operand : Byte) : Statement (.ldyZpx operand) := of_length rfl
theorem ldyAbs (operand : Word) : Statement (.ldyAbs operand) := of_length rfl
theorem ldyAbx (operand : Word) : Statement (.ldyAbx operand) := of_length rfl
theorem staZp (operand : Byte) : Statement (.staZp operand) := of_length rfl
theorem staZpx (operand : Byte) : Statement (.staZpx operand) := of_length rfl
theorem staAbs (operand : Word) : Statement (.staAbs operand) := of_length rfl
theorem staAbx (operand : Word) : Statement (.staAbx operand) := of_length rfl
theorem staAby (operand : Word) : Statement (.staAby operand) := of_length rfl
theorem staIzx (operand : Byte) : Statement (.staIzx operand) := of_length rfl
theorem staIzy (operand : Byte) : Statement (.staIzy operand) := of_length rfl
theorem stxZp (operand : Byte) : Statement (.stxZp operand) := of_length rfl
theorem stxZpy (operand : Byte) : Statement (.stxZpy operand) := of_length rfl
theorem stxAbs (operand : Word) : Statement (.stxAbs operand) := of_length rfl
theorem styZp (operand : Byte) : Statement (.styZp operand) := of_length rfl
theorem styZpx (operand : Byte) : Statement (.styZpx operand) := of_length rfl
theorem styAbs (operand : Word) : Statement (.styAbs operand) := of_length rfl
theorem tax : Statement .tax := of_length rfl
theorem tay : Statement .tay := of_length rfl
theorem tsx : Statement .tsx := of_length rfl
theorem txa : Statement .txa := of_length rfl
theorem txs : Statement .txs := of_length rfl
theorem tya : Statement .tya := of_length rfl
theorem adcImm (operand : Byte) : Statement (.adcImm operand) := of_length rfl
theorem adcZp (operand : Byte) : Statement (.adcZp operand) := of_length rfl
theorem adcZpx (operand : Byte) : Statement (.adcZpx operand) := of_length rfl
theorem adcAbs (operand : Word) : Statement (.adcAbs operand) := of_length rfl
theorem adcAbx (operand : Word) : Statement (.adcAbx operand) := of_length rfl
theorem adcAby (operand : Word) : Statement (.adcAby operand) := of_length rfl
theorem adcIzx (operand : Byte) : Statement (.adcIzx operand) := of_length rfl
theorem adcIzy (operand : Byte) : Statement (.adcIzy operand) := of_length rfl
theorem sbcImm (operand : Byte) : Statement (.sbcImm operand) := of_length rfl
theorem sbcZp (operand : Byte) : Statement (.sbcZp operand) := of_length rfl
theorem sbcZpx (operand : Byte) : Statement (.sbcZpx operand) := of_length rfl
theorem sbcAbs (operand : Word) : Statement (.sbcAbs operand) := of_length rfl
theorem sbcAbx (operand : Word) : Statement (.sbcAbx operand) := of_length rfl
theorem sbcAby (operand : Word) : Statement (.sbcAby operand) := of_length rfl
theorem sbcIzx (operand : Byte) : Statement (.sbcIzx operand) := of_length rfl
theorem sbcIzy (operand : Byte) : Statement (.sbcIzy operand) := of_length rfl
theorem andImm (operand : Byte) : Statement (.andImm operand) := of_length rfl
theorem andZp (operand : Byte) : Statement (.andZp operand) := of_length rfl
theorem andZpx (operand : Byte) : Statement (.andZpx operand) := of_length rfl
theorem andAbs (operand : Word) : Statement (.andAbs operand) := of_length rfl
theorem andAbx (operand : Word) : Statement (.andAbx operand) := of_length rfl
theorem andAby (operand : Word) : Statement (.andAby operand) := of_length rfl
theorem andIzx (operand : Byte) : Statement (.andIzx operand) := of_length rfl
theorem andIzy (operand : Byte) : Statement (.andIzy operand) := of_length rfl
theorem oraImm (operand : Byte) : Statement (.oraImm operand) := of_length rfl
theorem oraZp (operand : Byte) : Statement (.oraZp operand) := of_length rfl
theorem oraZpx (operand : Byte) : Statement (.oraZpx operand) := of_length rfl
theorem oraAbs (operand : Word) : Statement (.oraAbs operand) := of_length rfl
theorem oraAbx (operand : Word) : Statement (.oraAbx operand) := of_length rfl
theorem oraAby (operand : Word) : Statement (.oraAby operand) := of_length rfl
theorem oraIzx (operand : Byte) : Statement (.oraIzx operand) := of_length rfl
theorem oraIzy (operand : Byte) : Statement (.oraIzy operand) := of_length rfl
theorem eorImm (operand : Byte) : Statement (.eorImm operand) := of_length rfl
theorem eorZp (operand : Byte) : Statement (.eorZp operand) := of_length rfl
theorem eorZpx (operand : Byte) : Statement (.eorZpx operand) := of_length rfl
theorem eorAbs (operand : Word) : Statement (.eorAbs operand) := of_length rfl
theorem eorAbx (operand : Word) : Statement (.eorAbx operand) := of_length rfl
theorem eorAby (operand : Word) : Statement (.eorAby operand) := of_length rfl
theorem eorIzx (operand : Byte) : Statement (.eorIzx operand) := of_length rfl
theorem eorIzy (operand : Byte) : Statement (.eorIzy operand) := of_length rfl
theorem bitZp (operand : Byte) : Statement (.bitZp operand) := of_length rfl
theorem bitAbs (operand : Word) : Statement (.bitAbs operand) := of_length rfl
theorem cmpImm (operand : Byte) : Statement (.cmpImm operand) := of_length rfl
theorem cmpZp (operand : Byte) : Statement (.cmpZp operand) := of_length rfl
theorem cmpZpx (operand : Byte) : Statement (.cmpZpx operand) := of_length rfl
theorem cmpAbs (operand : Word) : Statement (.cmpAbs operand) := of_length rfl
theorem cmpAbx (operand : Word) : Statement (.cmpAbx operand) := of_length rfl
theorem cmpAby (operand : Word) : Statement (.cmpAby operand) := of_length rfl
theorem cmpIzx (operand : Byte) : Statement (.cmpIzx operand) := of_length rfl
theorem cmpIzy (operand : Byte) : Statement (.cmpIzy operand) := of_length rfl
theorem cpxImm (operand : Byte) : Statement (.cpxImm operand) := of_length rfl
theorem cpxZp (operand : Byte) : Statement (.cpxZp operand) := of_length rfl
theorem cpxAbs (operand : Word) : Statement (.cpxAbs operand) := of_length rfl
theorem cpyImm (operand : Byte) : Statement (.cpyImm operand) := of_length rfl
theorem cpyZp (operand : Byte) : Statement (.cpyZp operand) := of_length rfl
theorem cpyAbs (operand : Word) : Statement (.cpyAbs operand) := of_length rfl
theorem aslAcc : Statement .aslAcc := of_length rfl
theorem aslZp (operand : Byte) : Statement (.aslZp operand) := of_length rfl
theorem aslZpx (operand : Byte) : Statement (.aslZpx operand) := of_length rfl
theorem aslAbs (operand : Word) : Statement (.aslAbs operand) := of_length rfl
theorem aslAbx (operand : Word) : Statement (.aslAbx operand) := of_length rfl
theorem lsrAcc : Statement .lsrAcc := of_length rfl
theorem lsrZp (operand : Byte) : Statement (.lsrZp operand) := of_length rfl
theorem lsrZpx (operand : Byte) : Statement (.lsrZpx operand) := of_length rfl
theorem lsrAbs (operand : Word) : Statement (.lsrAbs operand) := of_length rfl
theorem lsrAbx (operand : Word) : Statement (.lsrAbx operand) := of_length rfl
theorem rolAcc : Statement .rolAcc := of_length rfl
theorem rolZp (operand : Byte) : Statement (.rolZp operand) := of_length rfl
theorem rolZpx (operand : Byte) : Statement (.rolZpx operand) := of_length rfl
theorem rolAbs (operand : Word) : Statement (.rolAbs operand) := of_length rfl
theorem rolAbx (operand : Word) : Statement (.rolAbx operand) := of_length rfl
theorem rorAcc : Statement .rorAcc := of_length rfl
theorem rorZp (operand : Byte) : Statement (.rorZp operand) := of_length rfl
theorem rorZpx (operand : Byte) : Statement (.rorZpx operand) := of_length rfl
theorem rorAbs (operand : Word) : Statement (.rorAbs operand) := of_length rfl
theorem rorAbx (operand : Word) : Statement (.rorAbx operand) := of_length rfl
theorem incZp (operand : Byte) : Statement (.incZp operand) := of_length rfl
theorem incZpx (operand : Byte) : Statement (.incZpx operand) := of_length rfl
theorem incAbs (operand : Word) : Statement (.incAbs operand) := of_length rfl
theorem incAbx (operand : Word) : Statement (.incAbx operand) := of_length rfl
theorem decZp (operand : Byte) : Statement (.decZp operand) := of_length rfl
theorem decZpx (operand : Byte) : Statement (.decZpx operand) := of_length rfl
theorem decAbs (operand : Word) : Statement (.decAbs operand) := of_length rfl
theorem decAbx (operand : Word) : Statement (.decAbx operand) := of_length rfl
theorem inx : Statement .inx := of_length rfl
theorem iny : Statement .iny := of_length rfl
theorem dex : Statement .dex := of_length rfl
theorem dey : Statement .dey := of_length rfl
theorem bcc (operand : Byte) : Statement (.bcc operand) := of_length rfl
theorem bcs (operand : Byte) : Statement (.bcs operand) := of_length rfl
theorem beq (operand : Byte) : Statement (.beq operand) := of_length rfl
theorem bne (operand : Byte) : Statement (.bne operand) := of_length rfl
theorem bmi (operand : Byte) : Statement (.bmi operand) := of_length rfl
theorem bpl (operand : Byte) : Statement (.bpl operand) := of_length rfl
theorem bvc (operand : Byte) : Statement (.bvc operand) := of_length rfl
theorem bvs (operand : Byte) : Statement (.bvs operand) := of_length rfl
theorem jmpAbs (operand : Word) : Statement (.jmpAbs operand) := of_length rfl
theorem jmpInd (operand : Word) : Statement (.jmpInd operand) := of_length rfl
theorem jsr (operand : Word) : Statement (.jsr operand) := of_length rfl
theorem rts : Statement .rts := of_length rfl
theorem pha : Statement .pha := of_length rfl
theorem pla : Statement .pla := of_length rfl
theorem php : Statement .php := of_length rfl
theorem plp : Statement .plp := of_length rfl
theorem clc : Statement .clc := of_length rfl
theorem sec : Statement .sec := of_length rfl
theorem cli : Statement .cli := of_length rfl
theorem sei : Statement .sei := of_length rfl
theorem cld : Statement .cld := of_length rfl
theorem sed : Statement .sed := of_length rfl
theorem clv : Statement .clv := of_length rfl
theorem nop : Statement .nop := of_length rfl
theorem brk : Statement .brk := of_length rfl
theorem rti : Statement .rti := of_length rfl

end Sys2Proof.Laws.EncodeLength
end

