-- ==== Sys2Proof/Tests/Slice0.lean ====
section
/-!
SUPPORT. Tests of the model, each on one small state and at most one step, with the expected result from the spec; and for
every statement with hypotheses a witness that meets them.
-/
namespace Sys2Proof.Tests

set_option Elab.async false

open Sys2Proof Sys2Proof.Machine

/-! ## Helpers -/

/-- The reset state with these bytes placed and `pc` at the first address (95_test_vectors.md, its reset state). -/
def placed (high : HighRegion) (pc : Word) (cells : List (Word × List Byte)) : State :=
  cells.foldl (fun s cell => pokeBytes cell.1 cell.2 s) { State.reset with pc := pc, high := high }

/-- What a reading of the next state gives, if the step answers one. -/
def after {α : Type} (s : State) (reading : State → α) : Option α :=
  match step s with
  | .next t => some (reading t)
  | .fault _ => none
  | .refused _ => none

/-- The fault a step ends in, if it ends in one. -/
def stop (s : State) : Option Fault :=
  match step s with
  | .next _ => none
  | .fault fault => some fault
  | .refused _ => none

/-- The bytes decode to exactly this instruction. -/
def decodesTo (bytes : List Byte) (i : Instr) : Bool :=
  match decode bytes with
  | .ok (j, []) => j == i
  | .ok (_, _ :: _) => false
  | .error _ => false

/-- Every check of a list holds. -/
def allTrue (checks : List Bool) : Bool := checks.all id

/-! ## Well-formedness (30_encoding.md R70, R71, R77) -/

theorem test_wellFormed_accepts : wellFormed [0xEA] && wellFormed [0xA9, 0x02] && wellFormed [0x8D, 0x10, 0x00] := by
  decide

theorem test_wellFormed_refuses_nothing : wellFormed [] = false := by decide

theorem test_wellFormed_refuses_an_illegal_opcode : wellFormed [0x02] = false ∧ wellFormed [0x80, 0x00] = false := by
  decide

theorem test_wellFormed_refuses_missing_operands :
    wellFormed [0xA9] = false ∧ wellFormed [0x8D, 0x10] = false := by decide

theorem test_wellFormed_refuses_left_over_bytes :
    wellFormed [0xEA, 0x00] = false ∧ wellFormed [0x8D, 0x10, 0x00, 0x00] = false := by decide

/-! ## Decoding: every row of the opcode table, from its written-out bytes -/

/-- One opcode of each family and format, bit by bit from the map's row and column (30_encoding.md R76). -/
theorem test_decode_bit_by_bit : allTrue
    [decodesTo [0b10101001#8, 0b00000101#8] (.ldaImm 0x05#8),
     decodesTo [0b10001101#8, 0b00010000#8, 0b00000000#8] (.staAbs 0x0010#16), decodesTo [0b10101010#8] .tax,
     decodesTo [0b01101101#8, 0b00010000#8, 0b00000000#8] (.adcAbs 0x0010#16),
     decodesTo [0b00100100#8, 0b00010000#8] (.bitZp 0x10#8), decodesTo [0b00001010#8] .aslAcc,
     decodesTo [0b11100110#8, 0b00010000#8] (.incZp 0x10#8), decodesTo [0b11010000#8, 0b00000011#8] (.bne 0x03#8),
     decodesTo [0b01101100#8, 0b11111111#8, 0b00110000#8] (.jmpInd 0x30FF#16),
     decodesTo [0b00100000#8, 0b10000000#8, 0b00000010#8] (.jsr 0x0280#16), decodesTo [0b01001000#8] .pha,
     decodesTo [0b00011000#8] .clc, decodesTo [0b00000000#8] .brk, decodesTo [0b01000000#8] .rti] = true := by
  decide +kernel

/-- 37 words of load_store_transfer, operand bytes `34 12`: low byte first. -/
theorem test_decode_load_store_transfer :
    allTrue
    ([decodesTo [0xA9#8, 0x34#8] (.ldaImm 0x34#8), decodesTo [0xA5#8, 0x34#8] (.ldaZp 0x34#8),
      decodesTo [0xB5#8, 0x34#8] (.ldaZpx 0x34#8), decodesTo [0xAD#8, 0x34#8, 0x12#8] (.ldaAbs 0x1234#16),
      decodesTo [0xBD#8, 0x34#8, 0x12#8] (.ldaAbx 0x1234#16),
      decodesTo [0xB9#8, 0x34#8, 0x12#8] (.ldaAby 0x1234#16), decodesTo [0xA1#8, 0x34#8] (.ldaIzx 0x34#8),
      decodesTo [0xB1#8, 0x34#8] (.ldaIzy 0x34#8), decodesTo [0xA2#8, 0x34#8] (.ldxImm 0x34#8),
      decodesTo [0xA6#8, 0x34#8] (.ldxZp 0x34#8), decodesTo [0xB6#8, 0x34#8] (.ldxZpy 0x34#8),
      decodesTo [0xAE#8, 0x34#8, 0x12#8] (.ldxAbs 0x1234#16),
      decodesTo [0xBE#8, 0x34#8, 0x12#8] (.ldxAby 0x1234#16), decodesTo [0xA0#8, 0x34#8] (.ldyImm 0x34#8)] ++
     [decodesTo [0xA4#8, 0x34#8] (.ldyZp 0x34#8), decodesTo [0xB4#8, 0x34#8] (.ldyZpx 0x34#8),
      decodesTo [0xAC#8, 0x34#8, 0x12#8] (.ldyAbs 0x1234#16),
      decodesTo [0xBC#8, 0x34#8, 0x12#8] (.ldyAbx 0x1234#16), decodesTo [0x85#8, 0x34#8] (.staZp 0x34#8),
      decodesTo [0x95#8, 0x34#8] (.staZpx 0x34#8), decodesTo [0x8D#8, 0x34#8, 0x12#8] (.staAbs 0x1234#16),
      decodesTo [0x9D#8, 0x34#8, 0x12#8] (.staAbx 0x1234#16),
      decodesTo [0x99#8, 0x34#8, 0x12#8] (.staAby 0x1234#16), decodesTo [0x81#8, 0x34#8] (.staIzx 0x34#8),
      decodesTo [0x91#8, 0x34#8] (.staIzy 0x34#8), decodesTo [0x86#8, 0x34#8] (.stxZp 0x34#8),
      decodesTo [0x96#8, 0x34#8] (.stxZpy 0x34#8), decodesTo [0x8E#8, 0x34#8, 0x12#8] (.stxAbs 0x1234#16)] ++
     [decodesTo [0x84#8, 0x34#8] (.styZp 0x34#8), decodesTo [0x94#8, 0x34#8] (.styZpx 0x34#8),
      decodesTo [0x8C#8, 0x34#8, 0x12#8] (.styAbs 0x1234#16), decodesTo [0xAA#8] .tax,
      decodesTo [0xA8#8] .tay, decodesTo [0xBA#8] .tsx, decodesTo [0x8A#8] .txa, decodesTo [0x9A#8] .txs,
      decodesTo [0x98#8] .tya]) = true := by decide +kernel

/-- 56 words of alu_logic_compare, operand bytes `34 12`: low byte first. -/
theorem test_decode_alu_logic_compare :
    allTrue
    ([decodesTo [0x69#8, 0x34#8] (.adcImm 0x34#8), decodesTo [0x65#8, 0x34#8] (.adcZp 0x34#8),
      decodesTo [0x75#8, 0x34#8] (.adcZpx 0x34#8), decodesTo [0x6D#8, 0x34#8, 0x12#8] (.adcAbs 0x1234#16),
      decodesTo [0x7D#8, 0x34#8, 0x12#8] (.adcAbx 0x1234#16),
      decodesTo [0x79#8, 0x34#8, 0x12#8] (.adcAby 0x1234#16), decodesTo [0x61#8, 0x34#8] (.adcIzx 0x34#8),
      decodesTo [0x71#8, 0x34#8] (.adcIzy 0x34#8), decodesTo [0xE9#8, 0x34#8] (.sbcImm 0x34#8),
      decodesTo [0xE5#8, 0x34#8] (.sbcZp 0x34#8), decodesTo [0xF5#8, 0x34#8] (.sbcZpx 0x34#8),
      decodesTo [0xED#8, 0x34#8, 0x12#8] (.sbcAbs 0x1234#16),
      decodesTo [0xFD#8, 0x34#8, 0x12#8] (.sbcAbx 0x1234#16)] ++
     [decodesTo [0xF9#8, 0x34#8, 0x12#8] (.sbcAby 0x1234#16), decodesTo [0xE1#8, 0x34#8] (.sbcIzx 0x34#8),
      decodesTo [0xF1#8, 0x34#8] (.sbcIzy 0x34#8), decodesTo [0x29#8, 0x34#8] (.andImm 0x34#8),
      decodesTo [0x25#8, 0x34#8] (.andZp 0x34#8), decodesTo [0x35#8, 0x34#8] (.andZpx 0x34#8),
      decodesTo [0x2D#8, 0x34#8, 0x12#8] (.andAbs 0x1234#16),
      decodesTo [0x3D#8, 0x34#8, 0x12#8] (.andAbx 0x1234#16),
      decodesTo [0x39#8, 0x34#8, 0x12#8] (.andAby 0x1234#16), decodesTo [0x21#8, 0x34#8] (.andIzx 0x34#8),
      decodesTo [0x31#8, 0x34#8] (.andIzy 0x34#8), decodesTo [0x09#8, 0x34#8] (.oraImm 0x34#8),
      decodesTo [0x05#8, 0x34#8] (.oraZp 0x34#8), decodesTo [0x15#8, 0x34#8] (.oraZpx 0x34#8)] ++
     [decodesTo [0x0D#8, 0x34#8, 0x12#8] (.oraAbs 0x1234#16),
      decodesTo [0x1D#8, 0x34#8, 0x12#8] (.oraAbx 0x1234#16),
      decodesTo [0x19#8, 0x34#8, 0x12#8] (.oraAby 0x1234#16), decodesTo [0x01#8, 0x34#8] (.oraIzx 0x34#8),
      decodesTo [0x11#8, 0x34#8] (.oraIzy 0x34#8), decodesTo [0x49#8, 0x34#8] (.eorImm 0x34#8),
      decodesTo [0x45#8, 0x34#8] (.eorZp 0x34#8), decodesTo [0x55#8, 0x34#8] (.eorZpx 0x34#8),
      decodesTo [0x4D#8, 0x34#8, 0x12#8] (.eorAbs 0x1234#16),
      decodesTo [0x5D#8, 0x34#8, 0x12#8] (.eorAbx 0x1234#16),
      decodesTo [0x59#8, 0x34#8, 0x12#8] (.eorAby 0x1234#16), decodesTo [0x41#8, 0x34#8] (.eorIzx 0x34#8)] ++
     [decodesTo [0x51#8, 0x34#8] (.eorIzy 0x34#8), decodesTo [0x24#8, 0x34#8] (.bitZp 0x34#8),
      decodesTo [0x2C#8, 0x34#8, 0x12#8] (.bitAbs 0x1234#16), decodesTo [0xC9#8, 0x34#8] (.cmpImm 0x34#8),
      decodesTo [0xC5#8, 0x34#8] (.cmpZp 0x34#8), decodesTo [0xD5#8, 0x34#8] (.cmpZpx 0x34#8),
      decodesTo [0xCD#8, 0x34#8, 0x12#8] (.cmpAbs 0x1234#16),
      decodesTo [0xDD#8, 0x34#8, 0x12#8] (.cmpAbx 0x1234#16),
      decodesTo [0xD9#8, 0x34#8, 0x12#8] (.cmpAby 0x1234#16), decodesTo [0xC1#8, 0x34#8] (.cmpIzx 0x34#8),
      decodesTo [0xD1#8, 0x34#8] (.cmpIzy 0x34#8), decodesTo [0xE0#8, 0x34#8] (.cpxImm 0x34#8),
      decodesTo [0xE4#8, 0x34#8] (.cpxZp 0x34#8), decodesTo [0xEC#8, 0x34#8, 0x12#8] (.cpxAbs 0x1234#16)] ++
     [decodesTo [0xC0#8, 0x34#8] (.cpyImm 0x34#8), decodesTo [0xC4#8, 0x34#8] (.cpyZp 0x34#8),
      decodesTo [0xCC#8, 0x34#8, 0x12#8] (.cpyAbs 0x1234#16)]) = true := by decide +kernel

/-- 32 words of shift_incdec, operand bytes `34 12`: low byte first. -/
theorem test_decode_shift_incdec :
    allTrue
    ([decodesTo [0x0A#8] .aslAcc, decodesTo [0x06#8, 0x34#8] (.aslZp 0x34#8),
      decodesTo [0x16#8, 0x34#8] (.aslZpx 0x34#8), decodesTo [0x0E#8, 0x34#8, 0x12#8] (.aslAbs 0x1234#16),
      decodesTo [0x1E#8, 0x34#8, 0x12#8] (.aslAbx 0x1234#16), decodesTo [0x4A#8] .lsrAcc,
      decodesTo [0x46#8, 0x34#8] (.lsrZp 0x34#8), decodesTo [0x56#8, 0x34#8] (.lsrZpx 0x34#8),
      decodesTo [0x4E#8, 0x34#8, 0x12#8] (.lsrAbs 0x1234#16),
      decodesTo [0x5E#8, 0x34#8, 0x12#8] (.lsrAbx 0x1234#16), decodesTo [0x2A#8] .rolAcc,
      decodesTo [0x26#8, 0x34#8] (.rolZp 0x34#8), decodesTo [0x36#8, 0x34#8] (.rolZpx 0x34#8),
      decodesTo [0x2E#8, 0x34#8, 0x12#8] (.rolAbs 0x1234#16)] ++
     [decodesTo [0x3E#8, 0x34#8, 0x12#8] (.rolAbx 0x1234#16), decodesTo [0x6A#8] .rorAcc,
      decodesTo [0x66#8, 0x34#8] (.rorZp 0x34#8), decodesTo [0x76#8, 0x34#8] (.rorZpx 0x34#8),
      decodesTo [0x6E#8, 0x34#8, 0x12#8] (.rorAbs 0x1234#16),
      decodesTo [0x7E#8, 0x34#8, 0x12#8] (.rorAbx 0x1234#16), decodesTo [0xE6#8, 0x34#8] (.incZp 0x34#8),
      decodesTo [0xF6#8, 0x34#8] (.incZpx 0x34#8), decodesTo [0xEE#8, 0x34#8, 0x12#8] (.incAbs 0x1234#16),
      decodesTo [0xFE#8, 0x34#8, 0x12#8] (.incAbx 0x1234#16), decodesTo [0xC6#8, 0x34#8] (.decZp 0x34#8),
      decodesTo [0xD6#8, 0x34#8] (.decZpx 0x34#8), decodesTo [0xCE#8, 0x34#8, 0x12#8] (.decAbs 0x1234#16),
      decodesTo [0xDE#8, 0x34#8, 0x12#8] (.decAbx 0x1234#16), decodesTo [0xE8#8] .inx] ++
     [decodesTo [0xC8#8] .iny, decodesTo [0xCA#8] .dex, decodesTo [0x88#8] .dey]) = true := by decide +kernel

/-- 12 words of control_transfer, operand bytes `34 12`: low byte first. -/
theorem test_decode_control_transfer :
    allTrue
    ([decodesTo [0x90#8, 0x34#8] (.bcc 0x34#8), decodesTo [0xB0#8, 0x34#8] (.bcs 0x34#8),
      decodesTo [0xF0#8, 0x34#8] (.beq 0x34#8), decodesTo [0xD0#8, 0x34#8] (.bne 0x34#8),
      decodesTo [0x30#8, 0x34#8] (.bmi 0x34#8), decodesTo [0x10#8, 0x34#8] (.bpl 0x34#8),
      decodesTo [0x50#8, 0x34#8] (.bvc 0x34#8), decodesTo [0x70#8, 0x34#8] (.bvs 0x34#8),
      decodesTo [0x4C#8, 0x34#8, 0x12#8] (.jmpAbs 0x1234#16),
      decodesTo [0x6C#8, 0x34#8, 0x12#8] (.jmpInd 0x1234#16),
      decodesTo [0x20#8, 0x34#8, 0x12#8] (.jsr 0x1234#16), decodesTo [0x60#8] .rts]) = true := by decide +kernel

/-- 14 words of stack_flags_system, operand bytes `34 12`: low byte first. -/
theorem test_decode_stack_flags_system :
    allTrue
    ([decodesTo [0x48#8] .pha, decodesTo [0x68#8] .pla, decodesTo [0x08#8] .php, decodesTo [0x28#8] .plp,
      decodesTo [0x18#8] .clc, decodesTo [0x38#8] .sec, decodesTo [0x58#8] .cli, decodesTo [0x78#8] .sei,
      decodesTo [0xD8#8] .cld, decodesTo [0xF8#8] .sed, decodesTo [0xB8#8] .clv, decodesTo [0xEA#8] .nop,
      decodesTo [0x00#8] .brk, decodesTo [0x40#8] .rti]) = true := by decide +kernel

/-- A table word of one byte: operand bytes of zeros (30_encoding.md R71). -/
theorem test_decodeTableWord : decodeTableWord 8 0xA9 = some (.ldaImm 0x00) ∧ decodeTableWord 8 0x20 = some (.jsr 0x0000)
    ∧ decodeTableWord 8 0x02 = none ∧ decodeTableWord 24 0x1234AD = some (.ldaAbs 0x1234) := by decide +kernel

/-- What withFetchWord places runs as the next step, from reset. -/
theorem test_withFetchWord : after (State.reset.withFetchWord 8 0xE8) (fun t => (t.x, t.pc)) = some (0x01#8, 0x0201#16) := by
  decide +kernel

/-- Also where the bus held no byte at `pc`. -/
theorem test_withFetchWord_high :
    after ({ State.reset with pc := 0x8000#16 }.withFetchWord 8 0xE8) (fun t => (t.x, t.pc)) = some (0x01#8, 0x8001#16) := by
  decide +kernel

/-! ## Fetch and fault -/

/-- 95_test_vectors.md V-G1: an illegal byte. -/
theorem test_illegal_opcode :
    stop (placed .openBus 0x0200#16 [(0x0200#16, [0x02])]) = some (.illegalOpcode 0x02#8 0x0200#16) := by decide +kernel

/-- 95_test_vectors.md V-H2: `pc` wraps between the bytes of one instruction. -/
theorem test_fetch_wraps : after (placed .flatRam 0xFFFF#16 [(0xFFFF#16, [0xAD, 0x10, 0x00]), (0x0010#16, [0x5A])])
    (fun t => (t.a, t.pc)) = some (0x5A#8, 0x0002#16) := by decide +kernel

/-- 95_test_vectors.md V-H1: the Reset transaction. -/
theorem test_reset : (let t := hostReset 0xFFFF#16 { State.reset with a := 0x12#8, sp := 0x10#8, flagC := true, cycles := 999 }
    (t.a, t.sp, t.pc, packP t, t.cycles)) = (0x00#8, 0xFD#8, 0xFFFF#16, 0x24#8, 0) := by decide +kernel

/-! ## One step per vector -/

/-- 95_test_vectors.md V-A1. -/
theorem test_lda_imm_sets_negative :
    after (placed .openBus 0x0200#16 [(0x0200#16, [0xA9#8, 0x80#8])]) (fun t => (t.a, packP t, t.pc, t.cycles))
      = some (0x80#8, 0xA4#8, 0x0202#16, 2) := by decide +kernel

/-- 95_test_vectors.md V-A3. -/
theorem test_lda_zpx_wraps_in_page_zero :
    after { placed .openBus 0x0200#16 [(0x0010#16, [0x33#8]), (0x0200#16, [0xB5#8, 0xF0#8])] with x := 0x20#8 } (fun t => (t.a, packP t, t.pc, t.cycles))
      = some (0x33#8, 0x24#8, 0x0202#16, 4) := by decide +kernel

/-- 95_test_vectors.md V-A5. -/
theorem test_ldx_zpy_wraps_in_page_zero :
    after { placed .openBus 0x0200#16 [(0x0000#16, [0x44#8]), (0x0200#16, [0xB6#8, 0xFF#8])] with y := 0x01#8 } (fun t => (t.x, packP t, t.pc, t.cycles))
      = some (0x44#8, 0x24#8, 0x0202#16, 4) := by decide +kernel

/-- 95_test_vectors.md V-A6. -/
theorem test_lda_abs_low_byte_first :
    after (placed .openBus 0x0200#16 [(0x0634#16, [0x5A#8]), (0x0200#16, [0xAD#8, 0x34#8, 0x06#8])]) (fun t => (t.a, packP t, t.pc, t.cycles))
      = some (0x5A#8, 0x24#8, 0x0203#16, 4) := by decide +kernel

/-- 95_test_vectors.md V-A8. -/
theorem test_lda_abx_crossing_costs_five :
    after { placed .openBus 0x0200#16 [(0x0710#16, [0x22#8]), (0x0200#16, [0xBD#8, 0xF0#8, 0x06#8])] with x := 0x20#8 } (fun t => (t.a, packP t, t.pc, t.cycles))
      = some (0x22#8, 0x24#8, 0x0203#16, 5) := by decide +kernel

/-- 95_test_vectors.md V-A7. -/
theorem test_lda_abx_no_crossing_costs_four :
    after { placed .openBus 0x0200#16 [(0x06FF#16, [0x11#8]), (0x0200#16, [0xBD#8, 0x00#8, 0x06#8])] with x := 0xFF#8 } (fun t => (t.a, packP t, t.pc, t.cycles))
      = some (0x11#8, 0x24#8, 0x0203#16, 4) := by decide +kernel

/-- 95_test_vectors.md V-A11. -/
theorem test_lda_izx_pointer_wraps :
    after { placed .openBus 0x0200#16 [(0x00FF#16, [0x34#8]), (0x0000#16, [0x06#8]), (0x0634#16, [0x77#8]), (0x0200#16, [0xA1#8, 0xFE#8])] with x := 0x01#8 } (fun t => (t.a, packP t, t.pc, t.cycles))
      = some (0x77#8, 0x24#8, 0x0202#16, 6) := by decide +kernel

/-- 95_test_vectors.md V-A13. -/
theorem test_lda_izy_crossing_costs_six :
    after { placed .openBus 0x0200#16 [(0x0086#16, [0x28#8, 0x06#8]), (0x0708#16, [0x55#8]), (0x0200#16, [0xB1#8, 0x86#8])] with y := 0xE0#8 } (fun t => (t.a, packP t, t.pc, t.cycles))
      = some (0x55#8, 0x24#8, 0x0202#16, 6) := by decide +kernel

/-- 95_test_vectors.md V-A19. -/
theorem test_lda_izy_pointer_wraps :
    after { placed .openBus 0x0200#16 [(0x00FF#16, [0x00#8]), (0x0000#16, [0x06#8]), (0x0602#16, [0x3C#8]), (0x0200#16, [0xB1#8, 0xFF#8])] with y := 0x02#8 } (fun t => (t.a, packP t, t.pc, t.cycles))
      = some (0x3C#8, 0x24#8, 0x0202#16, 5) := by decide +kernel

/-- 95_test_vectors.md V-A14. -/
theorem test_lda_aby_wraps_past_the_top :
    after { placed .openBus 0x0200#16 [(0x0000#16, [0x99#8]), (0x0200#16, [0xB9#8, 0xFF#8, 0xFF#8])] with y := 0x01#8 } (fun t => (t.a, packP t, t.pc, t.cycles))
      = some (0x99#8, 0xA4#8, 0x0203#16, 5) := by decide +kernel

/-- 95_test_vectors.md V-A15. -/
theorem test_lda_abs_reads_an_alias :
    after (placed .openBus 0x0200#16 [(0x0010#16, [0xAB#8]), (0x0200#16, [0xAD#8, 0x10#8, 0x08#8])]) (fun t => (t.a, packP t, t.pc, t.cycles))
      = some (0xAB#8, 0xA4#8, 0x0203#16, 4) := by decide +kernel

/-- 95_test_vectors.md V-B1. -/
theorem test_lda_imm_zero :
    after { placed .openBus 0x0200#16 [(0x0200#16, [0xA9#8, 0x00#8])] with a := 0x55#8 } (fun t => (t.a, packP t, t.pc, t.cycles))
      = some (0x00#8, 0x26#8, 0x0202#16, 2) := by decide +kernel

/-- 95_test_vectors.md V-B2. -/
theorem test_ldx_imm :
    after (placed .openBus 0x0200#16 [(0x0200#16, [0xA2#8, 0xFF#8])]) (fun t => (t.x, packP t, t.pc, t.cycles))
      = some (0xFF#8, 0xA4#8, 0x0202#16, 2) := by decide +kernel

/-- 95_test_vectors.md V-B3. -/
theorem test_ldy_imm :
    after (placed .openBus 0x0200#16 [(0x0200#16, [0xA0#8, 0x7F#8])]) (fun t => (t.y, packP t, t.pc, t.cycles))
      = some (0x7F#8, 0x24#8, 0x0202#16, 2) := by decide +kernel

/-- 95_test_vectors.md V-B4. -/
theorem test_ldx_aby_crossing_costs_five :
    after { placed .openBus 0x0200#16 [(0x0600#16, [0x80#8]), (0x0200#16, [0xBE#8, 0xFF#8, 0x05#8])] with y := 0x01#8 } (fun t => (t.x, packP t, t.pc, t.cycles))
      = some (0x80#8, 0xA4#8, 0x0203#16, 5) := by decide +kernel

/-- 95_test_vectors.md V-B5. -/
theorem test_sta_zp_keeps_flags :
    after { placed .openBus 0x0200#16 [(0x0200#16, [0x85#8, 0x10#8])] with a := 0x05#8, flagN := true, flagZ := true } (fun t => (t.a, packP t, t.pc, t.cycles, peek t 0x0010#16))
      = some (0x05#8, 0xA6#8, 0x0202#16, 3, some 0x05#8) := by decide +kernel

/-- 95_test_vectors.md V-A16. -/
theorem test_sta_abx_crossing_costs_base :
    after { placed .openBus 0x0200#16 [(0x0200#16, [0x9D#8, 0xF0#8, 0x06#8])] with x := 0x20#8, a := 0x5A#8 } (fun t => (t.a, packP t, t.pc, t.cycles, peek t 0x0710#16))
      = some (0x5A#8, 0x24#8, 0x0203#16, 5, some 0x5A#8) := by decide +kernel

/-- 95_test_vectors.md V-B6. -/
theorem test_sta_izy_crossing_costs_base :
    after { placed .openBus 0x0200#16 [(0x0020#16, [0x01#8, 0x06#8]), (0x0200#16, [0x91#8, 0x20#8])] with a := 0xEE#8, y := 0xFF#8 } (fun t => (t.a, packP t, t.pc, t.cycles, peek t 0x0700#16))
      = some (0xEE#8, 0x24#8, 0x0202#16, 6, some 0xEE#8) := by decide +kernel

/-- 95_test_vectors.md V-G5. -/
theorem test_sta_abs_writes_through_an_alias :
    after { placed .openBus 0x0200#16 [(0x0200#16, [0x8D#8, 0x10#8, 0x18#8])] with a := 0x5A#8 } (fun t => (t.a, peek t 0x0010#16, peek t 0x0810#16, peek t 0x1010#16, peek t 0x1810#16))
      = some (0x5A#8, some 0x5A#8, some 0x5A#8, some 0x5A#8, some 0x5A#8) := by decide +kernel

/-- 95_test_vectors.md V-G6. -/
theorem test_sta_abs_into_the_instruction_stream :
    after { placed .openBus 0x0200#16 [(0x0200#16, [0x8D#8, 0x05#8, 0x02#8, 0xEA#8])] with a := 0xEA#8 } (fun t => (t.a, packP t, t.pc, t.cycles, peek t 0x0205#16))
      = some (0xEA#8, 0x24#8, 0x0203#16, 4, some 0xEA#8) := by decide +kernel

/-- 95_test_vectors.md V-B7. -/
theorem test_stx_zpy :
    after { placed .openBus 0x0200#16 [(0x0200#16, [0x96#8, 0x20#8])] with x := 0x7E#8, y := 0x02#8 } (fun t => (t.a, packP t, t.pc, t.cycles, peek t 0x0022#16))
      = some (0x00#8, 0x24#8, 0x0202#16, 4, some 0x7E#8) := by decide +kernel

/-- 95_test_vectors.md V-B8. -/
theorem test_sty_abs :
    after { placed .openBus 0x0200#16 [(0x0200#16, [0x8C#8, 0x00#8, 0x06#8])] with y := 0x99#8 } (fun t => (t.a, packP t, t.pc, t.cycles, peek t 0x0600#16))
      = some (0x00#8, 0x24#8, 0x0203#16, 4, some 0x99#8) := by decide +kernel

/-- 95_test_vectors.md V-B10. -/
theorem test_tax :
    after { placed .openBus 0x0200#16 [(0x0200#16, [0xAA#8])] with a := 0x80#8 } (fun t => (t.x, packP t, t.pc, t.cycles))
      = some (0x80#8, 0xA4#8, 0x0201#16, 2) := by decide +kernel

/-- 95_test_vectors.md V-B11. -/
theorem test_tay :
    after { placed .openBus 0x0200#16 [(0x0200#16, [0xA8#8])] with a := 0x00#8, y := 0x55#8 } (fun t => (t.y, packP t, t.pc, t.cycles))
      = some (0x00#8, 0x26#8, 0x0201#16, 2) := by decide +kernel

/-- 95_test_vectors.md V-B12. -/
theorem test_tsx :
    after (placed .openBus 0x0200#16 [(0x0200#16, [0xBA#8])]) (fun t => (t.x, packP t, t.pc, t.cycles))
      = some (0xFD#8, 0xA4#8, 0x0201#16, 2) := by decide +kernel

/-- 95_test_vectors.md V-B13. -/
theorem test_txa :
    after { placed .openBus 0x0200#16 [(0x0200#16, [0x8A#8])] with x := 0x41#8, a := 0xFF#8 } (fun t => (t.a, packP t, t.pc, t.cycles))
      = some (0x41#8, 0x24#8, 0x0201#16, 2) := by decide +kernel

/-- 95_test_vectors.md V-B14. -/
theorem test_txs_sets_no_flag :
    after { placed .openBus 0x0200#16 [(0x0200#16, [0x9A#8])] with x := 0x00#8, flagZ := false } (fun t => (t.sp, packP t, t.pc, t.cycles))
      = some (0x00#8, 0x24#8, 0x0201#16, 2) := by decide +kernel

/-- 95_test_vectors.md V-B15. -/
theorem test_tya :
    after { placed .openBus 0x0200#16 [(0x0200#16, [0x98#8])] with y := 0x00#8, a := 0x12#8 } (fun t => (t.a, packP t, t.pc, t.cycles))
      = some (0x00#8, 0x26#8, 0x0201#16, 2) := by decide +kernel

/-- 95_test_vectors.md V-C2. -/
theorem test_adc_carry_in_overflows :
    after { placed .openBus 0x0200#16 [(0x0200#16, [0x69#8, 0x00#8])] with a := 0x7F#8, flagC := true } (fun t => (t.a, packP t, t.pc, t.cycles))
      = some (0x80#8, 0xE4#8, 0x0202#16, 2) := by decide +kernel

/-- 95_test_vectors.md V-C5. -/
theorem test_adc_ignores_decimal_mode :
    after { placed .openBus 0x0200#16 [(0x0200#16, [0x69#8, 0x09#8])] with a := 0x09#8, flagD := true } (fun t => (t.a, packP t, t.pc, t.cycles))
      = some (0x12#8, 0x2C#8, 0x0202#16, 2) := by decide +kernel

/-- 95_test_vectors.md S3b. -/
theorem test_sbc_adds_the_complement :
    after { placed .openBus 0x0200#16 [(0x0200#16, [0xE9#8, 0xAF#8])] with a := 0x50#8 } (fun t => (t.a, packP t, t.pc, t.cycles))
      = some (0xA0#8, 0xE4#8, 0x0202#16, 2) := by decide +kernel

/-- 95_test_vectors.md V-C9. -/
theorem test_sbc_positive_minus_negative :
    after { placed .openBus 0x0200#16 [(0x0200#16, [0xE9#8, 0xB0#8])] with a := 0x50#8, flagC := true } (fun t => (t.a, packP t, t.pc, t.cycles))
      = some (0xA0#8, 0xE4#8, 0x0202#16, 2) := by decide +kernel

/-- 95_test_vectors.md V-C12. -/
theorem test_and_imm :
    after { placed .openBus 0x0200#16 [(0x0200#16, [0x29#8, 0x0F#8])] with a := 0xF0#8 } (fun t => (t.a, packP t, t.pc, t.cycles))
      = some (0x00#8, 0x26#8, 0x0202#16, 2) := by decide +kernel

/-- 95_test_vectors.md V-C15. -/
theorem test_and_abx_crossing_costs_five :
    after { placed .openBus 0x0200#16 [(0x0600#16, [0x3C#8]), (0x0200#16, [0x3D#8, 0xFF#8, 0x05#8])] with a := 0xFF#8, x := 0x01#8 } (fun t => (t.a, packP t, t.pc, t.cycles))
      = some (0x3C#8, 0x24#8, 0x0203#16, 5) := by decide +kernel

/-- 95_test_vectors.md V-C13. -/
theorem test_ora_imm :
    after { placed .openBus 0x0200#16 [(0x0200#16, [0x09#8, 0x80#8])] with a := 0x01#8 } (fun t => (t.a, packP t, t.pc, t.cycles))
      = some (0x81#8, 0xA4#8, 0x0202#16, 2) := by decide +kernel

/-- 95_test_vectors.md V-C14. -/
theorem test_eor_imm :
    after { placed .openBus 0x0200#16 [(0x0200#16, [0x49#8, 0xFF#8])] with a := 0xFF#8 } (fun t => (t.a, packP t, t.pc, t.cycles))
      = some (0x00#8, 0x26#8, 0x0202#16, 2) := by decide +kernel

/-- 95_test_vectors.md V-C16. -/
theorem test_bit_zp_flags_from_the_operand :
    after { placed .openBus 0x0200#16 [(0x0010#16, [0xC0#8]), (0x0200#16, [0x24#8, 0x10#8])] with a := 0x01#8 } (fun t => (t.a, packP t, t.pc, t.cycles))
      = some (0x01#8, 0xE6#8, 0x0202#16, 3) := by decide +kernel

/-- 95_test_vectors.md V-C17. -/
theorem test_bit_abs_clears_n_and_v :
    after { placed .openBus 0x0200#16 [(0x0600#16, [0x3F#8]), (0x0200#16, [0x2C#8, 0x00#8, 0x06#8])] with a := 0xFF#8, flagV := true, flagN := true } (fun t => (t.a, packP t, t.pc, t.cycles))
      = some (0xFF#8, 0x24#8, 0x0203#16, 4) := by decide +kernel

/-- 95_test_vectors.md S4b. -/
theorem test_cmp_less :
    after { placed .openBus 0x0200#16 [(0x0200#16, [0xC9#8, 0x20#8])] with a := 0x10#8 } (fun t => (t.a, packP t, t.pc, t.cycles))
      = some (0x10#8, 0xA4#8, 0x0202#16, 2) := by decide +kernel

/-- 95_test_vectors.md V-C19. -/
theorem test_cmp_sign_of_the_difference :
    after { placed .openBus 0x0200#16 [(0x0200#16, [0xC9#8, 0x01#8])] with a := 0x80#8 } (fun t => (t.a, packP t, t.pc, t.cycles))
      = some (0x80#8, 0x25#8, 0x0202#16, 2) := by decide +kernel

/-- 95_test_vectors.md V-C23. -/
theorem test_cmp_zp_keeps_v :
    after { placed .openBus 0x0200#16 [(0x0010#16, [0x40#8]), (0x0200#16, [0xC5#8, 0x10#8])] with a := 0x40#8, flagV := true } (fun t => (t.a, packP t, t.pc, t.cycles))
      = some (0x40#8, 0x67#8, 0x0202#16, 3) := by decide +kernel

/-- 95_test_vectors.md V-C24. -/
theorem test_cmp_izy_crossing_costs_six :
    after { placed .openBus 0x0200#16 [(0x0020#16, [0xFF#8, 0x05#8]), (0x0600#16, [0x10#8]), (0x0200#16, [0xD1#8, 0x20#8])] with a := 0x10#8, y := 0x01#8 } (fun t => (t.a, packP t, t.pc, t.cycles))
      = some (0x10#8, 0x27#8, 0x0202#16, 6) := by decide +kernel

/-- 95_test_vectors.md V-C21. -/
theorem test_cpx_imm :
    after { placed .openBus 0x0200#16 [(0x0200#16, [0xE0#8, 0x03#8])] with x := 0x05#8 } (fun t => (t.a, packP t, t.pc, t.cycles))
      = some (0x00#8, 0x25#8, 0x0202#16, 2) := by decide +kernel

/-- 95_test_vectors.md V-C22. -/
theorem test_cpy_imm :
    after { placed .openBus 0x0200#16 [(0x0200#16, [0xC0#8, 0x01#8])] with y := 0x00#8 } (fun t => (t.a, packP t, t.pc, t.cycles))
      = some (0x00#8, 0xA4#8, 0x0202#16, 2) := by decide +kernel

/-- 95_test_vectors.md V-D1. -/
theorem test_asl_acc :
    after { placed .openBus 0x0200#16 [(0x0200#16, [0x0A#8])] with a := 0x81#8 } (fun t => (t.a, packP t, t.pc, t.cycles))
      = some (0x02#8, 0x25#8, 0x0201#16, 2) := by decide +kernel

/-- 95_test_vectors.md V-D3. -/
theorem test_asl_zp_writes_back :
    after (placed .openBus 0x0200#16 [(0x0010#16, [0x40#8]), (0x0200#16, [0x06#8, 0x10#8])]) (fun t => (t.a, packP t, t.pc, t.cycles, peek t 0x0010#16))
      = some (0x00#8, 0xA4#8, 0x0202#16, 5, some 0x80#8) := by decide +kernel

/-- 95_test_vectors.md V-A18. -/
theorem test_asl_abx_crossing_costs_base :
    after { placed .openBus 0x0200#16 [(0x0710#16, [0x81#8]), (0x0200#16, [0x1E#8, 0xF0#8, 0x06#8])] with x := 0x20#8 } (fun t => (t.a, packP t, t.pc, t.cycles, peek t 0x0710#16))
      = some (0x00#8, 0x25#8, 0x0203#16, 7, some 0x02#8) := by decide +kernel

/-- 95_test_vectors.md V-D4. -/
theorem test_lsr_acc_clears_n :
    after { placed .openBus 0x0200#16 [(0x0200#16, [0x4A#8])] with a := 0x01#8, flagN := true } (fun t => (t.a, packP t, t.pc, t.cycles))
      = some (0x00#8, 0x27#8, 0x0201#16, 2) := by decide +kernel

/-- 95_test_vectors.md V-D5. -/
theorem test_lsr_zp :
    after (placed .openBus 0x0200#16 [(0x0010#16, [0x03#8]), (0x0200#16, [0x46#8, 0x10#8])]) (fun t => (t.a, packP t, t.pc, t.cycles, peek t 0x0010#16))
      = some (0x00#8, 0x25#8, 0x0202#16, 5, some 0x01#8) := by decide +kernel

/-- 95_test_vectors.md V-D6. -/
theorem test_rol_acc_carry_enters_bit_0 :
    after { placed .openBus 0x0200#16 [(0x0200#16, [0x2A#8])] with a := 0x40#8, flagC := true } (fun t => (t.a, packP t, t.pc, t.cycles))
      = some (0x81#8, 0xA4#8, 0x0201#16, 2) := by decide +kernel

/-- 95_test_vectors.md V-D8. -/
theorem test_rol_abs :
    after { placed .openBus 0x0200#16 [(0x0600#16, [0x00#8]), (0x0200#16, [0x2E#8, 0x00#8, 0x06#8])] with flagC := true } (fun t => (t.a, packP t, t.pc, t.cycles, peek t 0x0600#16))
      = some (0x00#8, 0x24#8, 0x0203#16, 6, some 0x01#8) := by decide +kernel

/-- 95_test_vectors.md V-D9. -/
theorem test_ror_acc_carry_enters_bit_7 :
    after { placed .openBus 0x0200#16 [(0x0200#16, [0x6A#8])] with a := 0x01#8, flagC := true } (fun t => (t.a, packP t, t.pc, t.cycles))
      = some (0x80#8, 0xA5#8, 0x0201#16, 2) := by decide +kernel

/-- 95_test_vectors.md V-D11. -/
theorem test_ror_zpx :
    after { placed .openBus 0x0200#16 [(0x0011#16, [0x00#8]), (0x0200#16, [0x76#8, 0x10#8])] with x := 0x01#8, flagC := true } (fun t => (t.a, packP t, t.pc, t.cycles, peek t 0x0011#16))
      = some (0x00#8, 0xA4#8, 0x0202#16, 6, some 0x80#8) := by decide +kernel

/-- 95_test_vectors.md V-D12. -/
theorem test_inc_zp_wraps :
    after { placed .openBus 0x0200#16 [(0x0010#16, [0xFF#8]), (0x0200#16, [0xE6#8, 0x10#8])] with flagC := true } (fun t => (t.a, packP t, t.pc, t.cycles, peek t 0x0010#16))
      = some (0x00#8, 0x27#8, 0x0202#16, 5, some 0x00#8) := by decide +kernel

/-- 95_test_vectors.md V-D14. -/
theorem test_dec_zp_wraps :
    after (placed .openBus 0x0200#16 [(0x0010#16, [0x00#8]), (0x0200#16, [0xC6#8, 0x10#8])]) (fun t => (t.a, packP t, t.pc, t.cycles, peek t 0x0010#16))
      = some (0x00#8, 0xA4#8, 0x0202#16, 5, some 0xFF#8) := by decide +kernel

/-- 95_test_vectors.md V-D15. -/
theorem test_dec_abx_crossing_costs_base :
    after { placed .openBus 0x0200#16 [(0x0600#16, [0x01#8]), (0x0200#16, [0xDE#8, 0xFF#8, 0x05#8])] with x := 0x01#8 } (fun t => (t.a, packP t, t.pc, t.cycles, peek t 0x0600#16))
      = some (0x00#8, 0x26#8, 0x0203#16, 7, some 0x00#8) := by decide +kernel

/-- 95_test_vectors.md V-D16. -/
theorem test_inx_wraps :
    after { placed .openBus 0x0200#16 [(0x0200#16, [0xE8#8])] with x := 0xFF#8 } (fun t => (t.x, packP t, t.pc, t.cycles))
      = some (0x00#8, 0x26#8, 0x0201#16, 2) := by decide +kernel

/-- 95_test_vectors.md V-D17. -/
theorem test_iny_negative :
    after { placed .openBus 0x0200#16 [(0x0200#16, [0xC8#8])] with y := 0x7F#8 } (fun t => (t.y, packP t, t.pc, t.cycles))
      = some (0x80#8, 0xA4#8, 0x0201#16, 2) := by decide +kernel

/-- 95_test_vectors.md V-D18. -/
theorem test_dex_wraps :
    after { placed .openBus 0x0200#16 [(0x0200#16, [0xCA#8])] with x := 0x00#8 } (fun t => (t.x, packP t, t.pc, t.cycles))
      = some (0xFF#8, 0xA4#8, 0x0201#16, 2) := by decide +kernel

/-- 95_test_vectors.md V-D19. -/
theorem test_dey_zero :
    after { placed .openBus 0x0200#16 [(0x0200#16, [0x88#8])] with y := 0x01#8 } (fun t => (t.y, packP t, t.pc, t.cycles))
      = some (0x00#8, 0x26#8, 0x0201#16, 2) := by decide +kernel

/-- 95_test_vectors.md V-E1. -/
theorem test_bcc_taken :
    after (placed .openBus 0x0300#16 [(0x0300#16, [0x90#8, 0x10#8])]) (fun t => (t.a, packP t, t.pc, t.cycles))
      = some (0x00#8, 0x24#8, 0x0312#16, 3) := by decide +kernel

/-- 95_test_vectors.md V-E2. -/
theorem test_bcs_not_taken :
    after (placed .openBus 0x0300#16 [(0x0300#16, [0xB0#8, 0x10#8])]) (fun t => (t.a, packP t, t.pc, t.cycles))
      = some (0x00#8, 0x24#8, 0x0302#16, 2) := by decide +kernel

/-- 95_test_vectors.md V-E3. -/
theorem test_beq_backwards_across_a_page :
    after { placed .openBus 0x0300#16 [(0x0300#16, [0xF0#8, 0xFC#8])] with flagZ := true } (fun t => (t.a, packP t, t.pc, t.cycles))
      = some (0x00#8, 0x26#8, 0x02FE#16, 4) := by decide +kernel

/-- 95_test_vectors.md V-E9. -/
theorem test_beq_most_negative :
    after { placed .openBus 0x0300#16 [(0x0300#16, [0xF0#8, 0x80#8])] with flagZ := true } (fun t => (t.a, packP t, t.pc, t.cycles))
      = some (0x00#8, 0x26#8, 0x0282#16, 4) := by decide +kernel

/-- 95_test_vectors.md S7a. -/
theorem test_bne_not_taken :
    after { placed .openBus 0x0200#16 [(0x0200#16, [0xD0#8, 0x03#8])] with flagZ := true } (fun t => (t.a, packP t, t.pc, t.cycles))
      = some (0x00#8, 0x26#8, 0x0202#16, 2) := by decide +kernel

/-- 95_test_vectors.md S7c. -/
theorem test_bne_next_page :
    after { placed .openBus 0x02FD#16 [(0x02FD#16, [0xD0#8, 0x01#8])] with flagZ := false } (fun t => (t.a, packP t, t.pc, t.cycles))
      = some (0x00#8, 0x24#8, 0x0300#16, 4) := by decide +kernel

/-- 95_test_vectors.md V-E4. -/
theorem test_bmi_taken :
    after { placed .openBus 0x0300#16 [(0x0300#16, [0x30#8, 0x02#8])] with flagN := true } (fun t => (t.a, packP t, t.pc, t.cycles))
      = some (0x00#8, 0xA4#8, 0x0304#16, 3) := by decide +kernel

/-- 95_test_vectors.md V-E5. -/
theorem test_bpl_to_itself :
    after (placed .openBus 0x0300#16 [(0x0300#16, [0x10#8, 0xFE#8])]) (fun t => (t.a, packP t, t.pc, t.cycles))
      = some (0x00#8, 0x24#8, 0x0300#16, 3) := by decide +kernel

/-- 95_test_vectors.md V-E6. -/
theorem test_bvc_not_taken :
    after { placed .openBus 0x0300#16 [(0x0300#16, [0x50#8, 0x7F#8])] with flagV := true } (fun t => (t.a, packP t, t.pc, t.cycles))
      = some (0x00#8, 0x64#8, 0x0302#16, 2) := by decide +kernel

/-- 95_test_vectors.md V-E7. -/
theorem test_bvs_across_a_page :
    after { placed .openBus 0x03F0#16 [(0x03F0#16, [0x70#8, 0x20#8])] with flagV := true } (fun t => (t.a, packP t, t.pc, t.cycles))
      = some (0x00#8, 0x64#8, 0x0412#16, 4) := by decide +kernel

/-- 95_test_vectors.md V-E11. -/
theorem test_jmp_abs :
    after (placed .openBus 0x0200#16 [(0x0634#16, [0xEA#8]), (0x0200#16, [0x4C#8, 0x34#8, 0x06#8])]) (fun t => (t.a, packP t, t.pc, t.cycles))
      = some (0x00#8, 0x24#8, 0x0634#16, 3) := by decide +kernel

/-- 95_test_vectors.md S6. -/
theorem test_jmp_ind_stays_in_its_page :
    after (placed .flatRam 0x0200#16 [(0x30FF#16, [0x00#8]), (0x3000#16, [0x40#8]), (0x3100#16, [0x55#8]), (0x0200#16, [0x6C#8, 0xFF#8, 0x30#8])]) (fun t => (t.a, packP t, t.pc, t.cycles))
      = some (0x00#8, 0x24#8, 0x4000#16, 5) := by decide +kernel

/-- 95_test_vectors.md V-E12. -/
theorem test_jsr_stacks_its_last_byte :
    after (placed .openBus 0x0200#16 [(0x0200#16, [0x20#8, 0x80#8, 0x02#8])]) (fun t => (t.sp, packP t, t.pc, t.cycles))
      = some (0xFB#8, 0x24#8, 0x0280#16, 6) := by decide +kernel

/-- 95_test_vectors.md V-E13. -/
theorem test_jsr_stack_wraps :
    after { placed .openBus 0x0200#16 [(0x0200#16, [0x20#8, 0x00#8, 0x03#8])] with sp := 0x00#8 } (fun t => (t.sp, peek t 0x0100#16, peek t 0x01FF#16))
      = some (0xFE#8, some 0x02#8, some 0x02#8) := by decide +kernel

/-- 95_test_vectors.md V-E14. -/
theorem test_rts_adds_one :
    after { placed .openBus 0x0200#16 [(0x01FC#16, [0x02#8, 0x02#8]), (0x0200#16, [0x60#8])] with sp := 0xFB#8 } (fun t => (t.sp, packP t, t.pc, t.cycles))
      = some (0xFD#8, 0x24#8, 0x0203#16, 6) := by decide +kernel

/-- 95_test_vectors.md V-E15. -/
theorem test_rts_wraps_to_zero :
    after { placed .openBus 0x0200#16 [(0x01FC#16, [0xFF#8, 0xFF#8]), (0x0200#16, [0x60#8])] with sp := 0xFB#8 } (fun t => (t.sp, packP t, t.pc, t.cycles))
      = some (0xFD#8, 0x24#8, 0x0000#16, 6) := by decide +kernel

/-- 95_test_vectors.md V-F1. -/
theorem test_pha :
    after { placed .openBus 0x0200#16 [(0x0200#16, [0x48#8])] with a := 0x42#8 } (fun t => (t.sp, packP t, t.pc, t.cycles, peek t 0x01FD#16))
      = some (0xFC#8, 0x24#8, 0x0201#16, 3, some 0x42#8) := by decide +kernel

/-- 95_test_vectors.md V-F2. -/
theorem test_pla_sets_zero :
    after { placed .openBus 0x0200#16 [(0x01FD#16, [0x00#8]), (0x0200#16, [0x68#8])] with sp := 0xFC#8, a := 0x55#8 } (fun t => (t.a, t.sp, packP t, t.pc, t.cycles))
      = some (0x00#8, 0xFD#8, 0x26#8, 0x0201#16, 4) := by decide +kernel

/-- 95_test_vectors.md V-F3. -/
theorem test_pla_stack_wraps :
    after { placed .openBus 0x0200#16 [(0x0100#16, [0x80#8]), (0x0200#16, [0x68#8])] with sp := 0xFF#8 } (fun t => (t.a, t.sp, packP t, t.pc, t.cycles))
      = some (0x80#8, 0x00#8, 0xA4#8, 0x0201#16, 4) := by decide +kernel

/-- 95_test_vectors.md V-F4. -/
theorem test_php_forces_bits_5_and_4 :
    after (placed .openBus 0x0200#16 [(0x0200#16, [0x08#8])]) (fun t => (t.sp, packP t, t.pc, t.cycles, peek t 0x01FD#16))
      = some (0xFC#8, 0x24#8, 0x0201#16, 3, some 0x34#8) := by decide +kernel

/-- 95_test_vectors.md V-F5. -/
theorem test_php_keeps_live_b :
    after { placed .openBus 0x0200#16 [(0x0200#16, [0x08#8])] with flagN := true, flagC := true, flagI := false } (fun t => (t.sp, packP t, t.pc, t.cycles, peek t 0x01FD#16))
      = some (0xFC#8, 0xA1#8, 0x0201#16, 3, some 0xB1#8) := by decide +kernel

/-- 95_test_vectors.md V-F6. -/
theorem test_plp_ignores_bits_5_and_4 :
    after { placed .openBus 0x0200#16 [(0x01FD#16, [0xFF#8]), (0x0200#16, [0x28#8])] with sp := 0xFC#8 } (fun t => (t.sp, packP t, t.pc, t.cycles))
      = some (0xFD#8, 0xEF#8, 0x0201#16, 4) := by decide +kernel

/-- 95_test_vectors.md V-F7. -/
theorem test_plp_clears_all_flags :
    after { placed .openBus 0x0200#16 [(0x01FD#16, [0x00#8]), (0x0200#16, [0x28#8])] with sp := 0xFC#8 } (fun t => (t.sp, packP t, t.pc, t.cycles))
      = some (0xFD#8, 0x20#8, 0x0201#16, 4) := by decide +kernel

/-- 95_test_vectors.md V-F8. -/
theorem test_clc :
    after { placed .openBus 0x0200#16 [(0x0200#16, [0x18#8])] with flagC := true } (fun t => (t.a, packP t, t.pc, t.cycles))
      = some (0x00#8, 0x24#8, 0x0201#16, 2) := by decide +kernel

/-- 95_test_vectors.md V-F9. -/
theorem test_sec :
    after (placed .openBus 0x0200#16 [(0x0200#16, [0x38#8])]) (fun t => (t.a, packP t, t.pc, t.cycles))
      = some (0x00#8, 0x25#8, 0x0201#16, 2) := by decide +kernel

/-- 95_test_vectors.md V-F10. -/
theorem test_cli :
    after (placed .openBus 0x0200#16 [(0x0200#16, [0x58#8])]) (fun t => (t.a, packP t, t.pc, t.cycles))
      = some (0x00#8, 0x20#8, 0x0201#16, 2) := by decide +kernel

/-- 95_test_vectors.md V-F11. -/
theorem test_sei :
    after { placed .openBus 0x0200#16 [(0x0200#16, [0x78#8])] with flagI := false } (fun t => (t.a, packP t, t.pc, t.cycles))
      = some (0x00#8, 0x24#8, 0x0201#16, 2) := by decide +kernel

/-- 95_test_vectors.md V-F12. -/
theorem test_cld :
    after { placed .openBus 0x0200#16 [(0x0200#16, [0xD8#8])] with flagD := true } (fun t => (t.a, packP t, t.pc, t.cycles))
      = some (0x00#8, 0x24#8, 0x0201#16, 2) := by decide +kernel

/-- 95_test_vectors.md V-F13. -/
theorem test_sed :
    after (placed .openBus 0x0200#16 [(0x0200#16, [0xF8#8])]) (fun t => (t.a, packP t, t.pc, t.cycles))
      = some (0x00#8, 0x2C#8, 0x0201#16, 2) := by decide +kernel

/-- 95_test_vectors.md V-F14. -/
theorem test_clv :
    after { placed .openBus 0x0200#16 [(0x0200#16, [0xB8#8])] with flagV := true } (fun t => (t.a, packP t, t.pc, t.cycles))
      = some (0x00#8, 0x24#8, 0x0201#16, 2) := by decide +kernel

/-- 95_test_vectors.md V-F15. -/
theorem test_nop :
    after (placed .openBus 0x0200#16 [(0x0200#16, [0xEA#8])]) (fun t => (t.a, packP t, t.pc, t.cycles))
      = some (0x00#8, 0x24#8, 0x0201#16, 2) := by decide +kernel

/-- 95_test_vectors.md V-F16. -/
theorem test_brk_enters_the_handler :
    after { placed .flatRam 0x0200#16 [(0xFFFE#16, [0x00#8, 0x03#8]), (0x0200#16, [0x00#8, 0xFF#8])] with flagI := false } (fun t => (t.sp, peek t 0x01FD#16, peek t 0x01FC#16, peek t 0x01FB#16))
      = some (0xFA#8, some 0x02#8, some 0x02#8, some 0x34#8) := by decide +kernel

/-- 95_test_vectors.md V-F17. -/
theorem test_brk_pushes_status_with_i :
    after { placed .flatRam 0x0200#16 [(0xFFFE#16, [0x34#8, 0x12#8]), (0x0200#16, [0x00#8])] with flagN := true, flagC := true, flagD := true } (fun t => (t.sp, packP t, t.pc, t.cycles, peek t 0x01FB#16))
      = some (0xFA#8, 0xAD#8, 0x1234#16, 7, some 0xBD#8) := by decide +kernel

/-- 95_test_vectors.md V-F18. -/
theorem test_rti_adds_nothing :
    after { placed .openBus 0x0300#16 [(0x01FB#16, [0x34#8, 0x02#8, 0x02#8]), (0x0300#16, [0x40#8])] with sp := 0xFA#8 } (fun t => (t.sp, packP t, t.pc, t.cycles))
      = some (0xFD#8, 0x24#8, 0x0202#16, 6) := by decide +kernel

/-- 95_test_vectors.md V-F19. -/
theorem test_rti_restores_flags :
    after { placed .openBus 0x0300#16 [(0x01FB#16, [0xC3#8, 0x78#8, 0x06#8]), (0x0300#16, [0x40#8])] with sp := 0xFA#8 } (fun t => (t.sp, packP t, t.pc, t.cycles))
      = some (0xFD#8, 0xE3#8, 0x0678#16, 6) := by decide +kernel

/-! ## Bus activity (40_step_and_addressing.md R112) -/

/-- 95_test_vectors.md V-A16: fetches, the resolver's read, then the write. -/
theorem test_bus_of_a_store : after { placed .openBus 0x0200#16 [(0x0200#16, [0x9D, 0xF0, 0x06])] with x := 0x20#8, a := 0x5A#8 }
    (fun t => t.busLog.reverse.map txnShape) =
      some [(false, 0x0200#16), (false, 0x0201#16), (false, 0x0202#16), (false, 0x0710#16), (true, 0x0710#16)] := by
  decide +kernel

/-- 95_test_vectors.md V-F16: the pushes of `BRK`, then the vector's bytes. -/
theorem test_bus_of_brk : after (placed .flatRam 0x0200#16 [(0x0200#16, [0x00]), (0xFFFE#16, [0x00, 0x03])])
    (fun t => t.busLog.reverse.map txnShape) =
      some [(false, 0x0200#16), (true, 0x01FD#16), (true, 0x01FC#16), (true, 0x01FB#16), (false, 0xFFFE#16),
        (false, 0xFFFF#16)] := by
  decide +kernel

/-! ## Witnesses: for every statement with hypotheses, values that meet all of them, one per clause -/

/-- RAM and the whole of `0x2000..0xFFFF` present. -/
def flat : State := { State.reset with high := .flatRam }

/-- A device at `0x2000`. -/
def device : State := { State.reset with high := .device }

/-- A step that answers a next state: `LDA #$80` at `0x0200`. -/
def ready : State := placed .openBus 0x0200#16 [(0x0200#16, [0xA9, 0x80])]

theorem test_witness_DecodedBytesAreTheEncoding : decodesTo [0xA9#8, 0x05#8] (.ldaImm 0x05#8) = true := by decide +kernel

theorem test_witness_IllegalBytesHaveNoTableEntry : 0x02#8 ∈ illegalOpcodes ∧ 0xFF#8 ∈ illegalOpcodes := by decide +kernel

theorem test_witness_StatusByteIsPackedFlags :
    0x34#8 &&& 0xCF#8 = 0x04#8 &&& 0xCF#8 ∧ packP (unpackP 0xFF#8 State.reset) = 0xEF#8 := by decide +kernel

/-- The two ends of RAM's window, one RAM byte under two addresses. -/
theorem test_witness_RamReadReturnsLastWrite : (0x1FFF#16).toNat < 0x2000 ∧ (0x07FF#16).toNat < 0x2000 ∧
    (memRead 0x07FF#16 (memWrite 0x1FFF#16 0x5A#8 State.reset)).1 = 0x5A#8 ∧
    (memRead 0x0000#16 (memWrite 0x1FFF#16 0x5A#8 State.reset)).1 = 0x00#8 := by decide +kernel

theorem test_witness_RamAliasesNameOneByte : (0x07FF#16).toNat < 0x0800 ∧
    (memRead 0x1FFF#16 (memWrite 0x07FF#16 0x5A#8 State.reset)).1 = 0x5A#8 := by decide +kernel

theorem test_witness_OpenBusReadIsAFreeValue : State.reset.high = .openBus ∧ 0x2000 ≤ (0x2000#16).toNat ∧
    0x2000 ≤ (0xFFFF#16).toNat ∧ peek State.reset 0x1FFF#16 = some 0x00#8 ∧ peek State.reset 0x2000#16 = none := by
  decide +kernel

theorem test_witness_FlatBusIsPlainRam : flat.high = .flatRam ∧ 0x2000 ≤ (0x2000#16).toNat ∧
    peek (memWrite 0xFFFF#16 0x5A#8 flat) 0xFFFF#16 = some 0x5A#8 ∧
    peek (memWrite 0xFFFF#16 0x5A#8 flat) 0x07FF#16 = some 0x00#8 ∧
    (let s := placed .flatRam 0x2000#16 [(0x8000#16, [0x5A])]; (memRead 0x8000#16 s).1 = 0x5A#8 ∧
      (memRead 0x8000#16 (memWrite 0x9000#16 0x01#8 s)).1 = 0x5A#8) := by decide +kernel

theorem test_witness_DeviceAnswersFromItsOwnTransactions : device.high = .device ∧ 0x2000 ≤ (0x2000#16).toNat ∧
    (0x1FFF#16).toNat < 0x2000 := by decide +kernel

/-- Bytes held in RAM, and held across the top of the address space. -/
theorem test_witness_StepRunsTheDecodedInstruction : decodesTo [0xA9#8, 0x80#8] (.ldaImm 0x80#8) = true ∧
    bytesAt ready ready.pc [0xA9#8, 0x80#8] = true ∧ (fetchBytes 2 ready).1 = [0xA9#8, 0x80#8] ∧
    (memRead ready.pc ready).1 ∉ illegalOpcodes ∧
    (fetchBytes 2 (placed .flatRam 0xFFFF#16 [(0xFFFF#16, [0xA9]), (0x0000#16, [0x80])])).1 = [0xA9#8, 0x80#8] := by
  decide +kernel

/-- `LDA #` in the last byte of the low region, its operand answered by a device, and by the open bus. -/
theorem test_witness_StepRunsTheDecodedInstruction_high :
    decode (fetchBytes 2 (placed .device 0x1FFF#16 [(0x1FFF#16, [0xA9])])).1 =
      .ok (.ldaImm (Config.deviceRead [] 0x2000#16), []) ∧
    decode (fetchBytes 2 (placed .openBus 0x1FFF#16 [(0x1FFF#16, [0xA9])])).1 =
      .ok (.ldaImm (Config.freeByte 0), []) := ⟨rfl, rfl⟩

/-- In RAM, and with the fetch in HighRegion. -/
theorem test_witness_IllegalOpcodeIsTheFault :
    (let s := placed .openBus 0x0200#16 [(0x0200#16, [0x02])]; (memRead s.pc s).1 ∈ illegalOpcodes ∧ s.pc.toNat < 0x2000) ∧
    (let s := placed .flatRam 0x8000#16 [(0x8000#16, [0xFF])]; (memRead s.pc s).1 ∈ illegalOpcodes) := by decide +kernel

/-- The three ways a cost comes about: base; one page cycle; a branch taken in the page and into the next. -/
theorem test_witness_EveryInstructionCompletesAtItsCost :
    costOf (.ldaAbx 0x0600#16) State.reset = baseCyclesOf (.ldaAbx 0x0600#16) ∧
    costOf (.ldaAbx 0x06F0#16) { State.reset with x := 0x20#8 } = baseCyclesOf (.ldaAbx 0x06F0#16) + 1 ∧
    branchCondition .bne State.reset = some true ∧ costOf (.bne 0x03#8) State.reset = 3 ∧
    costOf (.bne 0xFD#8) State.reset = 4 ∧ decodesTo (fetchBytes 2 ready).1 (.ldaImm 0x80#8) = true := by decide +kernel

/-- One instruction per clause. -/
theorem test_witness_CostsPerClass : allTrue
    [Instr.mode (.ldaImm 0x00#8) == .imm, Instr.aslAcc.mode == .acc, Instr.tax.mode == .imp && Instr.tax.mnemonic == .tax,
     Instr.pha.mnemonic == .pha, Instr.plp.mnemonic == .plp,
     readsOperand (Instr.mnemonic (.ldaZp 0x00#8)) && Instr.mode (.ldaZp 0x00#8) == .zp,
     readsOperand (Instr.mnemonic (.ldxZpy 0x00#8)) && Instr.mode (.ldxZpy 0x00#8) == .zpy,
     readsOperand (Instr.mnemonic (.bitAbs 0x0000#16)) && Instr.mode (.bitAbs 0x0000#16) == .abs,
     readsOperand (Instr.mnemonic (.cmpAby 0x0000#16)) && Instr.mode (.cmpAby 0x0000#16) == .aby,
     readsOperand (Instr.mnemonic (.eorIzx 0x00#8)) && Instr.mode (.eorIzx 0x00#8) == .izx,
     readsOperand (Instr.mnemonic (.sbcIzy 0x00#8)) && Instr.mode (.sbcIzy 0x00#8) == .izy,
     isStore (Instr.mnemonic (.styZp 0x00#8)) && Instr.mode (.styZp 0x00#8) == .zp,
     isStore (Instr.mnemonic (.stxZpy 0x00#8)) && Instr.mode (.stxZpy 0x00#8) == .zpy,
     isStore (Instr.mnemonic (.staAbs 0x0000#16)) && Instr.mode (.staAbs 0x0000#16) == .abs,
     isStore (Instr.mnemonic (.staAby 0x0000#16)) && Instr.mode (.staAby 0x0000#16) == .aby,
     isStore (Instr.mnemonic (.staIzy 0x00#8)) && Instr.mode (.staIzy 0x00#8) == .izy,
     isRmw (Instr.mnemonic (.incZp 0x00#8)) && Instr.mode (.incZp 0x00#8) == .zp,
     isRmw (Instr.mnemonic (.rorZpx 0x00#8)) && Instr.mode (.rorZpx 0x00#8) == .zpx,
     isRmw (Instr.mnemonic (.aslAbs 0x0000#16)) && Instr.mode (.aslAbs 0x0000#16) == .abs,
     isRmw (Instr.mnemonic (.decAbx 0x0000#16)) && Instr.mode (.decAbx 0x0000#16) == .abx,
     Instr.mode (.bcc 0x00#8) == .rel, Instr.mnemonic (.jmpAbs 0x0000#16) == .jmp, Instr.mnemonic (.jmpInd 0x0000#16) == .jmp,
     Instr.rts.mnemonic == .rts, Instr.brk.mnemonic == .brk] = true := by decide +kernel

theorem test_witness_InvariantHoldsAfterReset : Memory.wf ready.mem = true ∧ ready.mem ≠ [] := by decide +kernel

theorem test_witness_StepKeepsTheInvariant : ready.Inv ∧ (after ready (fun t => t.a)).isSome = true := by decide +kernel

theorem test_witness_BreakBitOnlyOnTheStack : ready.flagB = false ∧ (after ready (fun t => t.flagB)).isSome = true := by
  decide +kernel

theorem test_witness_ResolversWriteOnlyTheLatches : Instr.tax.mode = .imp ∧ Instr.aslAcc.mode = .acc ∧
    Instr.mode (.ldaImm 0x00#8) = .imm ∧ Instr.mode (.jmpInd 0x0000#16) = .ind ∧ Instr.mode (.bcc 0x00#8) = .rel ∧
    (resolve (.ldaAbx 0x06F0#16) { State.reset with x := 0x20#8 }).2 = true := by decide +kernel

theorem test_witness_RegistersChangeOnlyWhereListed : writesA .nop = false ∧ writesX .nop = false ∧ writesY .nop = false ∧
    writesSp .nop = false ∧ writesA .aslAcc = true ∧ writesA (.aslZp 0x10#8) = false := by decide +kernel

theorem test_witness_FlagsChangeOnlyWhereListed : writesNZ .sta = false ∧ writesV .cmp = false ∧ writesB .adc = false ∧
    writesD .adc = false ∧ writesI .adc = false ∧ writesC .inc = false ∧ Instr.plp.mnemonic = .plp ∧
    Instr.clc.mnemonic = .clc ∧ Instr.sec.mnemonic = .sec ∧ Instr.cli.mnemonic = .cli ∧ Instr.sei.mnemonic = .sei ∧
    Instr.cld.mnemonic = .cld ∧ Instr.sed.mnemonic = .sed ∧ Instr.clv.mnemonic = .clv := by decide +kernel

/-- The stored bytes, and an address beside each; an alias of a stored byte is the same byte. -/
theorem test_witness_MemoryChangesOnlyWhereStored :
    storedAddresses (.staAbs 0x1810#16) State.reset = [0x1810#16] ∧
    storedAddresses .brk State.reset = [0x01FD#16, 0x01FC#16, 0x01FB#16] ∧
    ¬ SameByte .openBus 0x1810#16 0x0011#16 ∧ ¬ SameByte .openBus 0x01FB#16 0x01FA#16 ∧
    ¬ SameByte .openBus 0x01FC#16 0x01FA#16 ∧ ¬ SameByte .openBus 0x01FD#16 0x01FA#16 ∧
    SameByte .openBus 0x1810#16 0x0010#16 := by decide +kernel

theorem test_witness_StraightLineAdvancesPc :
    writesPc (.ldaImm 0x80#8) = false ∧ decodesTo (fetchBytes 2 ready).1 (.ldaImm 0x80#8) = true := by decide +kernel

theorem test_witness_InterruptAndDecimalFlagsAreStorageOnly :
    Instr.mnemonic (.adcImm 0x09#8) ∉ [.php, .brk] ∧ Instr.rti.mnemonic ∉ [.php, .brk] := by decide +kernel

/-- One instruction of every mode, with the boundary of each clause. -/
theorem test_witness_modes : allTrue
    [Instr.tax.mode == .imp, Instr.aslAcc.mode == .acc, Instr.mode (.ldaImm 0x80#8) == .imm,
     Instr.mode (.bne 0x80#8) == .rel && (resolve (.bne 0x80#8) State.reset).1.effectiveAddress == 0x0180#16,
     Instr.mode (.ldaZp 0xFF#8) == .zp && (resolve (.ldaZp 0xFF#8) State.reset).1.effectiveAddress == 0x00FF#16,
     Instr.mode (.ldaZpx 0xFF#8) == .zpx
       && (resolve (.ldaZpx 0xFF#8) { State.reset with x := 0x01#8 }).1.effectiveAddress == 0x0000#16,
     Instr.mode (.ldxZpy 0xFF#8) == .zpy
       && (resolve (.ldxZpy 0xFF#8) { State.reset with y := 0xFF#8 }).1.effectiveAddress == 0x00FE#16,
     Instr.mode (.ldaAbs 0xFFFF#16) == .abs && (resolve (.ldaAbs 0xFFFF#16) flat).1.effectiveAddress == 0xFFFF#16,
     Instr.mode (.ldaAbx 0xFFFF#16) == .abx && (resolve (.ldaAbx 0xFFFF#16) { flat with x := 0x01#8 }).2,
     Instr.mode (.ldaAby 0x06FE#16) == .aby && !(resolve (.ldaAby 0x06FE#16) { flat with y := 0x01#8 }).2,
     Instr.mode (.jmpInd 0x03FF#16) == .ind
       && (resolve (.jmpInd 0x03FF#16) (placed .openBus 0x0200#16 [(0x03FF#16, [0x34]), (0x0300#16, [0x12])])).1.effectiveAddress
         == 0x1234#16,
     Instr.mode (.ldaIzx 0xFE#8) == .izx
       && (resolve (.ldaIzx 0xFE#8) { placed .openBus 0x0200#16 [(0x00FF#16, [0x34]), (0x0000#16, [0x06])] with
         x := 0x01#8 }).1.effectiveAddress == 0x0634#16,
     Instr.mode (.ldaIzy 0xFF#8) == .izy
       && (resolve (.ldaIzy 0xFF#8) { placed .openBus 0x0200#16 [(0x00FF#16, [0xFF]), (0x0000#16, [0xFF])] with
         y := 0x01#8 }).1.effectiveAddress == 0x0000#16] = true := by decide +kernel

/-- One instruction per mnemonic that a statement names, in a form that its table entry has; a store whose address the bus
holds, and one whose address it does not hold. -/
theorem test_witness_mnemonics : allTrue
    [Instr.mnemonic (.ldaIzy 0x00#8) == .lda, Instr.mnemonic (.ldxAby 0x0000#16) == .ldx, Instr.mnemonic (.ldyAbx 0x0000#16) == .ldy,
     Instr.mnemonic (.staIzx 0x00#8) == .sta, Instr.mnemonic (.stxZpy 0x00#8) == .stx, Instr.mnemonic (.styZpx 0x00#8) == .sty,
     (peek State.reset (resolve (.staAbs 0x1FFF#16) State.reset).1.effectiveAddress).isSome,
     (peek State.reset (resolve (.staAbs 0x2000#16) State.reset).1.effectiveAddress).isNone,
     (peek State.reset (resolve (.stxZp 0xFF#8) State.reset).1.effectiveAddress).isSome,
     (peek State.reset (resolve (.styZp 0x00#8) State.reset).1.effectiveAddress).isSome,
     Instr.mnemonic (.adcIzx 0x00#8) == .adc, Instr.mnemonic (.sbcAbx 0x0000#16) == .sbc, Instr.mnemonic (.andZpx 0x00#8) == .and,
     Instr.mnemonic (.oraAby 0x0000#16) == .ora, Instr.mnemonic (.eorIzy 0x00#8) == .eor, Instr.mnemonic (.bitZp 0x00#8) == .bit,
     Instr.mnemonic (.cmpIzx 0x00#8) == .cmp, Instr.mnemonic (.cpxAbs 0x0000#16) == .cpx, Instr.mnemonic (.cpyZp 0x00#8) == .cpy,
     Instr.aslAcc.mnemonic == .asl, Instr.mnemonic (.lsrAbx 0x0000#16) == .lsr, Instr.mnemonic (.rolZpx 0x00#8) == .rol,
     Instr.rorAcc.mnemonic == .ror, Instr.mnemonic (.incAbx 0x0000#16) == .inc, Instr.mnemonic (.decZp 0x00#8) == .dec,
     Instr.mnemonic (.jmpAbs 0x0000#16) == .jmp, Instr.mnemonic (.jmpInd 0x0000#16) == .jmp] = true := by decide +kernel

theorem test_witness_NineRotatesRestore : Instr.rolAcc ∈ [Instr.rolAcc, Instr.rorAcc] := by decide

/-- Taken and not taken. -/
theorem test_witness_BranchesFollowTheirCondition : branchCondition (Instr.mnemonic (.bcc 0x10#8)) State.reset = some true ∧
    branchCondition (Instr.mnemonic (.bcs 0x10#8)) State.reset = some false := by decide +kernel

/-- A bus that holds the vector. -/
theorem test_witness_BrkEntersTheHandler : peek flat 0xFFFE#16 = some 0x00#8 ∧ peek flat 0xFFFF#16 = some 0x00#8 := by
  decide +kernel

end Sys2Proof.Tests
end

section
/-!
SUPPORT. What every instruction's step is: its table entry and base count (30_encoding.md R75, R76, R81), what its
resolver leaves alone, what its Execute slot answers, the equation of its meaning, and the step that fetches it; then the
cost of a step (40_step_and_addressing.md R93) and O19.
-/
namespace Sys2Proof

/-- What the search finds is an entry of the table, under the opcode searched for. -/
theorem findRow_some {opcode : Byte} {rows : List OpcodeRow} {row : OpcodeRow}
    (h : findRow opcode rows = some row) : row ∈ rows ∧ row.opcode = opcode := by
  induction rows with
  | nil => cases h
  | cons first rest ih =>
    rw [findRow] at h
    split at h
    · next hop => obtain rfl := Option.some.inj h; exact ⟨List.mem_cons_self, hop⟩
    · exact (ih h).imp_left (List.mem_cons_of_mem first)

/-- Every instruction's opcode has its entry, under the instruction's own mnemonic and mode. -/
theorem lookupOpcode_opcode (i : Instr) :
    (lookupOpcode i.opcode).map (fun row => (row.mnemonic, row.mode)) = some (i.mnemonic, i.mode) := by
  cases i <;> rfl

/-- Base counts lie between 2 and 7, and that of a relative branch is 2. -/
theorem opcodeTable_baseCycles :
    ∀ row ∈ opcodeTable, 2 ≤ row.baseCycles ∧ row.baseCycles ≤ 7 ∧ (row.mode = .rel → row.baseCycles = 2) := by
  decide +kernel

end Sys2Proof

namespace Sys2Proof.Machine

theorem baseCyclesOf_bounds (i : Instr) :
    2 ≤ baseCyclesOf i ∧ baseCyclesOf i ≤ 7 ∧ (i.mode = .rel → baseCyclesOf i = 2) := by
  obtain ⟨row, hrow, hentry⟩ := Option.map_eq_some_iff.mp (lookupOpcode_opcode i)
  have hmode : row.mode = i.mode := congrArg Prod.snd hentry
  have hbounds := opcodeTable_baseCycles row (findRow_some hrow).1
  simpa [baseCyclesOf, hrow, hmode] using hbounds

/-- Only the relative branches have a condition (44_control_transfer.md R180). -/
theorem mode_of_branchCondition {i : Instr} {s : State} {c : Bool} (h : branchCondition i.mnemonic s = some c) :
    i.mode = .rel := by
  cases i with
  | bcc | bcs | beq | bne | bmi | bpl | bvc | bvs => rfl
  | _ => cases h

/-! ### What a resolver leaves alone (40_step_and_addressing.md R95) -/

theorem latchFrom_frame (p : Word) (s : State) : latchFrom p s = { s with
    dataLatch := (latchFrom p s).dataLatch, effectiveAddress := (latchFrom p s).effectiveAddress,
    draws := (latchFrom p s).draws, busLog := (latchFrom p s).busLog } := by
  unfold latchFrom memRead
  split <;> rfl

theorem readPair_frame (p q : Word) (s : State) : (readPair p q s).2 = { s with
    draws := (readPair p q s).2.draws, busLog := (readPair p q s).2.busLog } := by
  simp only [readPair]
  rw [memRead_frame, memRead_frame p]

/-- A resolver writes its two latches, and the model's counter and record of its reads. -/
theorem resolve_frame (i : Instr) (s : State) : (resolve i s).1 = { s with
    dataLatch := (resolve i s).1.dataLatch, effectiveAddress := (resolve i s).1.effectiveAddress,
    draws := (resolve i s).1.draws, busLog := (resolve i s).1.busLog } := by
  unfold resolve
  cases i.mode with
  | imp | acc | imm | rel => rfl
  | zp | zpx | zpy | abs | abx | aby => exact latchFrom_frame _ s
  | ind =>
    simp only [resolveMode, resolveInd]
    rw [readPair_frame]
  | izx | izy =>
    simp only [resolveMode, resolveIzx, resolveIzy]
    rw [latchFrom_frame, readPair_frame]

@[simp] theorem resolve_pc (i : Instr) (s : State) : (resolve i s).1.pc = s.pc := by rw [resolve_frame]
@[simp] theorem resolve_cycles (i : Instr) (s : State) : (resolve i s).1.cycles = s.cycles := by rw [resolve_frame]
@[simp] theorem resolve_flagN (i : Instr) (s : State) : (resolve i s).1.flagN = s.flagN := by rw [resolve_frame]
@[simp] theorem resolve_flagV (i : Instr) (s : State) : (resolve i s).1.flagV = s.flagV := by rw [resolve_frame]
@[simp] theorem resolve_flagZ (i : Instr) (s : State) : (resolve i s).1.flagZ = s.flagZ := by rw [resolve_frame]
@[simp] theorem resolve_flagC (i : Instr) (s : State) : (resolve i s).1.flagC = s.flagC := by rw [resolve_frame]

@[simp] theorem branchCondition_resolve (m : Mnemonic) (i : Instr) (s : State) :
    branchCondition m (resolve i s).1 = branchCondition m s := by simp [branchCondition]

/-- Only three modes can report a crossed page. -/
theorem mode_of_pageCross {i : Instr} {s : State} (h : (resolve i s).2 = true) : i.mode ∈ [.abx, .aby, .izy] := by
  unfold resolve at h
  cases hm : i.mode with
  | abx | aby | izy => simp
  | imp | acc | imm | rel | zp | zpx | zpy | abs | ind | izx => rw [hm] at h; cases h

/-! ### What an Execute slot answers -/

@[simp] theorem plain_state (s : State) : (plain s).state = s := rfl
@[simp] theorem plain_instrExtra (s : State) : (plain s).instrExtra = false := rfl
@[simp] theorem plain_branchExtra (s : State) : (plain s).branchExtra = 0 := rfl
@[simp] theorem eligible_state (s : State) : (eligible s).state = s := rfl
@[simp] theorem eligible_instrExtra (s : State) : (eligible s).instrExtra = true := rfl
@[simp] theorem eligible_branchExtra (s : State) : (eligible s).branchExtra = 0 := rfl

/-- The common branch rule (44_control_transfer.md R180). -/
theorem branchIf_eq (c : Bool) (s : State) : branchIf c s =
    ⟨{ s with pc := if c then s.effectiveAddress else s.pc }, false,
      if c then if highByte s.effectiveAddress = highByte s.pc then 1 else 2 else 0⟩ := by
  cases c <;> rfl

@[simp] theorem writeBack_cycles (m : Mode) (r : Byte) (s : State) : (writeBack m r s).cycles = s.cycles := by
  unfold writeBack; split <;> simp

@[simp] theorem enterBreak_cycles (s : State) : (enterBreak s).cycles = s.cycles := by simp [enterBreak]

@[simp] theorem returnFromBreak_cycles (s : State) : (returnFromBreak s).cycles = s.cycles := by
  simp [returnFromBreak]

/-- The three kinds of Execute slot: the nine that take the page cycle (40_step_and_addressing.md R94), the branches,
and the rest. -/
theorem bodyOf_cases (i : Instr) (s : State) :
    (takesPageCycle i.mnemonic = true ∧ branchCondition i.mnemonic s = none ∧
      ∃ t, bodyOf i s = eligible t ∧ t.cycles = s.cycles) ∨
    (takesPageCycle i.mnemonic = false ∧ ∃ c, branchCondition i.mnemonic s = some c ∧ bodyOf i s = branchIf c s) ∨
    (takesPageCycle i.mnemonic = false ∧ branchCondition i.mnemonic s = none ∧
      ∃ t, bodyOf i s = plain t ∧ t.cycles = s.cycles) := by
  unfold bodyOf
  cases i.mnemonic with
  | adc | and | cmp | eor | lda | ldx | ldy | ora | sbc => exact .inl ⟨rfl, rfl, _, rfl, rfl⟩
  | bcc | bcs | beq | bne | bmi | bpl | bvc | bvs => exact .inr (.inl ⟨rfl, _, rfl, rfl⟩)
  | _ => exact .inr (.inr ⟨rfl, rfl, _, rfl, by simp⟩)

/-- No Execute slot counts cycles: the end of the step does. -/
theorem bodyOf_cycles (i : Instr) (s : State) : (bodyOf i s).state.cycles = s.cycles := by
  obtain ⟨-, -, t, hb, hc⟩ | ⟨-, c, -, hb⟩ | ⟨-, -, t, hb, hc⟩ := bodyOf_cases i s
  · simp [hb, hc]
  · simp [hb, branchIf_eq]
  · simp [hb, hc]

/-- The cost of the formula (40_step_and_addressing.md R93) is what the table entry, the resolver and the Execute slot
give. -/
theorem stepCost_eq_costOf (i : Instr) (s : State) :
    stepCost (baseCyclesOf i) (resolve i s).2 (bodyOf i (resolve i s).1).instrExtra
      (bodyOf i (resolve i s).1).branchExtra = costOf i s := by
  obtain ⟨hp, hc, t, hb, -⟩ | ⟨hp, c, hc, hb⟩ | ⟨hp, hc, t, hb, -⟩ := bodyOf_cases i (resolve i s).1
  all_goals
    rw [branchCondition_resolve] at hc
    simp [stepCost, costOf, branchCycles, hp, hc, hb, branchIf_eq]

/-- What every meaning is: it completes, with what its Execute slot leaves, at the cost of the formula (R90, R93). -/
theorem exec_eq_next (i : Instr) (s : State) :
    exec i s = .next (retire (costOf i s) (bodyOf i (resolve i s).1).state) := by
  rw [exec_eq_complete, complete_eq, stepCost_eq_costOf]

/-! ### A whole step -/

/-- Where the bytes fetched at `pc` are exactly one instruction, Fetch and Decode answer it (30_encoding.md R70 to
R74). -/
theorem fetchInstr_of_decode {n : Nat} {i : Instr} {s : State} (h : decode (fetchBytes n s).1 = .ok (i, [])) :
    fetchInstr s = (.ok i, (fetchBytes n s).2) := by
  cases n with
  | zero => cases h
  | succ k =>
    rw [fetchBytes_succ, decode] at h
    cases hrow : lookupOpcode (fetch8 s).1 with
    | none => simp [hrow] at h
    | some row =>
      simp only [hrow] at h
      simp only [fetchInstr, hrow]
      cases hf : row.format with
      | f1 instr =>
        match k with
        | 0 => simp_all [fetchOperand]
        | k + 1 => simp [hf] at h
      | f2 build =>
        match k with
        | 0 => simp [hf] at h
        | 1 => simp_all [fetchOperand]
        | k + 2 => simp [hf] at h
      | f3 build =>
        match k with
        | 0 | 1 => simp [hf] at h
        | 2 => simp_all [fetchOperand]
        | k + 3 => simp [hf] at h

/-- So the step is that instruction's meaning, from the state after its bytes (log 11). -/
theorem step_of_decode {n : Nat} {i : Instr} {s : State} (h : decode (fetchBytes n s).1 = .ok (i, [])) :
    step s = exec i (fetchBytes n s).2 := by
  rw [step, fetchInstr_of_decode h]

@[simp] theorem fetchBytes_cycles (n : Nat) (s : State) : (fetchBytes n s).2.cycles = s.cycles := by
  rw [fetchBytes_frame]

theorem hostStep_of_next {s t : State} (h : step s = .next t) : hostStep s = (.ok (t.cycles - s.cycles), t) := by
  rw [hostStep, h]

/-! ### The cost of a step (40_step_and_addressing.md R93) -/

theorem branchCycles_eq_zero {i : Instr} {s : State} (h : branchCondition i.mnemonic s ≠ some true) :
    branchCycles i s = 0 := if_neg h

theorem branchCycles_of_taken {i : Instr} {s : State} (h : branchCondition i.mnemonic s = some true) :
    branchCycles i s = 1 ∨ branchCycles i s = 2 := by
  rw [branchCycles, if_pos h]
  split <;> simp

/-- The three ways a cost comes about: the base count, one page cycle, a taken branch. -/
theorem costOf_cases (i : Instr) (s : State) :
    costOf i s = baseCyclesOf i ∨
    (takesPageCycle i.mnemonic = true ∧ i.mode ∈ [.abx, .aby, .izy] ∧ (resolve i s).2 = true ∧
      costOf i s = baseCyclesOf i + 1) ∨
    (branchCondition i.mnemonic s = some true ∧
      (costOf i s = baseCyclesOf i + 1 ∨ costOf i s = baseCyclesOf i + 2)) := by
  by_cases hb : branchCondition i.mnemonic s = some true
  · have hx : (resolve i s).2 = false := by
      by_contra hx
      have := mode_of_pageCross (Bool.eq_true_of_not_eq_false hx)
      simp [mode_of_branchCondition hb] at this
    have := branchCycles_of_taken hb
    right; right
    simpa [costOf, hx, hb] using this
  · rw [costOf, branchCycles_eq_zero hb]
    cases hx : (resolve i s).2
    · simp
    · cases hp : takesPageCycle i.mnemonic
      · simp
      · exact .inr (.inl ⟨rfl, mode_of_pageCross hx, rfl, rfl⟩)

theorem costOf_bounds (i : Instr) (s : State) : 2 ≤ costOf i s ∧ costOf i s ≤ 8 := by
  obtain ⟨hlow, hhigh, hrel⟩ := baseCyclesOf_bounds i
  obtain h | ⟨-, -, -, h⟩ | ⟨hb, h⟩ := costOf_cases i s
  · omega
  · omega
  · have := hrel (mode_of_branchCondition hb)
    omega

/-- Every meaning completes, and its cost is what it adds to `cycles` (R90; log 13). -/
theorem exec_completes (i : Instr) (s : State) : ∃ t, exec i s = .next t ∧ t.cycles = s.cycles + costOf i s :=
  ⟨_, exec_eq_next i s, by simp [bodyOf_cycles]⟩

/-- Settles O19: every meaning is one equation (`exec_eq_next`), its cost is bounded case by case (`costOf_cases`), and
the bytes that decode to an instruction are the ones the step fetches (`step_of_decode`). -/
theorem everyInstructionCompletesAtItsCost : Obligations.EveryInstructionCompletesAtItsCost := by
  refine ⟨fun i s => ?_, fun n i s h => ?_⟩
  · obtain ⟨t, ht, hcycles⟩ := exec_completes i s
    obtain ⟨hlow, hhigh⟩ := costOf_bounds i s
    exact ⟨t, ht, hcycles, hlow, hhigh, costOf_cases i s⟩
  · obtain ⟨t, ht, hcycles⟩ := exec_completes i (fetchBytes n s).2
    rw [fetchBytes_cycles] at hcycles
    have hstep : step s = .next t := (step_of_decode h).trans ht
    refine ⟨t, hstep, ?_, hcycles⟩
    rw [hostStep_of_next hstep, hcycles, Nat.add_sub_cancel_left]

end Sys2Proof.Machine
end

section
/-!
SUPPORT. The bus operations as equations in the state's fields, and the forms of a mnemonic: which latches the resolvers
of its modes fill (30_encoding.md R76, 40_step_and_addressing.md R95).
-/
namespace Sys2Proof

/-- What holds of every entry of the dispatch table holds of every instruction. -/
theorem of_opcodeTable {P : Mnemonic → Mode → Prop} (h : ∀ row ∈ opcodeTable, P row.mnemonic row.mode) (i : Instr) :
    P i.mnemonic i.mode := by
  obtain ⟨row, hrow, hentry⟩ := Option.map_eq_some_iff.mp (lookupOpcode_opcode i)
  obtain ⟨hmnemonic, hmode⟩ := Prod.mk.inj hentry
  rw [← hmnemonic, ← hmode]
  exact h row (findRow_some hrow).1

end Sys2Proof

namespace Sys2Proof.Machine

/-! ### The bus operations, field by field -/

/-- A read takes the byte the bus holds, or else HighRegion's answer, which costs a draw (20_memory.md R44, R46). -/
theorem memRead_eq (p : Word) (s : State) : memRead p s = ((peek s p).getD (highValue p s), { s with
    draws := s.draws + if (peek s p).isSome then 0 else 1
    busLog := .read p ((peek s p).getD (highValue p s)) :: s.busLog }) := by
  unfold memRead peek
  cases cellOf s.high p <;> rfl

/-- A write stores where the bus holds a byte, and is recorded everywhere (20_memory.md R45, R46). -/
theorem memWrite_eq (p : Word) (v : Byte) (s : State) : memWrite p v s = { s with
    mem := ((cellOf s.high p).map fun cell => Memory.write s.mem cell v).getD s.mem
    busLog := .write p v :: s.busLog } := by
  unfold memWrite poke
  cases cellOf s.high p <;> rfl

theorem fetchOperand_frame (format : Format) (s : State) : (fetchOperand format s).2 = { s with
    pc := (fetchOperand format s).2.pc, draws := (fetchOperand format s).2.draws
    busLog := (fetchOperand format s).2.busLog } := by
  cases format with
  | f1 | f2 | f3 => simp only [fetchOperand, fetch8, memRead_eq]

/-- Fetching reads and advances `pc`; the registers, the flags and the memory stay (40_step_and_addressing.md R91). -/
theorem fetchInstr_frame (s : State) : (fetchInstr s).2 = { s with
    pc := (fetchInstr s).2.pc, draws := (fetchInstr s).2.draws, busLog := (fetchInstr s).2.busLog } := by
  cases hrow : lookupOpcode (fetch8 s).1 with
  | none =>
    simp only [fetchInstr, hrow]
    rw [fetch8_frame]
  | some row =>
    simp only [fetchInstr, hrow]
    rw [fetchOperand_frame, fetch8_frame]

/-- A step that answers a next state ran some instruction's meaning from the state its fetch left. -/
theorem exec_of_step {s t : State} (h : step s = .next t) :
    ∃ i f, f = { s with pc := f.pc, draws := f.draws, busLog := f.busLog } ∧ exec i f = .next t := by
  have hframe := fetchInstr_frame s
  rw [step] at h
  split at h
  next i f hf => exact ⟨i, f, by rwa [hf] at hframe, h⟩
  next => cases h

/-! ### Modes and their latches -/

/-- The modes that mention `data_latch`: all but Indirect and Relative (40_step_and_addressing.md R96 to R108). -/
def latchesData (m : Mode) : Bool := m ∉ [.ind, .rel]

/-- The modes that mention `effective_address`: all but Implied, Accumulator and Immediate. -/
def latchesAddress (m : Mode) : Bool := m ∉ [.imp, .acc, .imm]

theorem latchesData_of_mnemonic {i : Instr} :
    i.mnemonic ∉ [.bcc, .bcs, .beq, .bne, .bmi, .bpl, .bvc, .bvs, .jmp] → latchesData i.mode = true :=
  of_opcodeTable
    (P := fun m mode => m ∉ [.bcc, .bcs, .beq, .bne, .bmi, .bpl, .bvc, .bvs, .jmp] → latchesData mode = true)
    (by decide +kernel) i

theorem latchesAddress_of_mnemonic {i : Instr} :
    i.mnemonic ∈ [.sta, .stx, .sty, .inc, .dec, .bcc, .bcs, .beq, .bne, .bmi, .bpl, .bvc, .bvs, .jmp, .jsr] →
      latchesAddress i.mode = true :=
  of_opcodeTable
    (P := fun m mode =>
      m ∈ [.sta, .stx, .sty, .inc, .dec, .bcc, .bcs, .beq, .bne, .bmi, .bpl, .bvc, .bvs, .jmp, .jsr] →
        latchesAddress mode = true)
    (by decide +kernel) i

/-- A shift or rotate is in Accumulator mode or addresses memory (43_shift_incdec.md R160). -/
theorem mode_of_shift {i : Instr} :
    i.mnemonic ∈ [.asl, .lsr, .rol, .ror] → i.mode = .acc ∨ latchesAddress i.mode = true :=
  of_opcodeTable
    (P := fun m mode => m ∈ [.asl, .lsr, .rol, .ror] → mode = .acc ∨ latchesAddress mode = true)
    (by decide +kernel) i

/-- `WriteBack` in a mode that addresses memory stores there (43_shift_incdec.md R160). -/
theorem writeBack_eq_memWrite {m : Mode} (h : latchesAddress m = true) (r : Byte) (s : State) :
    writeBack m r s = memWrite s.effectiveAddress r s := by
  refine if_neg ?_
  rintro (rfl | rfl) <;> cases h

theorem writeBack_wf {s : State} (m : Mode) (r : Byte) (h : Memory.wf s.mem = true) :
    Memory.wf (writeBack m r s).mem = true := by
  unfold writeBack
  split
  · exact h
  · exact memWrite_wf _ r h

end Sys2Proof.Machine
end

section
/-!
SUPPORT. What an instruction leaves alone, by the spec's tables of writers (10_state.md R10, R11, R13, R25), the flags
it sets to a constant, and that it keeps the memory canonical; then O25, O26, O22 and O21.
-/
namespace Sys2Proof.Machine

theorem eq_retire_of_exec {i : Instr} {s t : State} (h : exec i s = .next t) :
    t = retire (costOf i s) (bodyOf i (resolve i s).1).state :=
  Host.Outcome.next.inj (h.symm.trans (exec_eq_next i s))

/-! ### The frame -/

/-- `t` with HighRegion, and every register and flag that `i` is not listed as a writer of, put back to what `s`
holds. -/
def restoreUnwritten (i : Instr) (s t : State) : State := { t with
  a := if writesA i then t.a else s.a
  x := if writesX i then t.x else s.x
  y := if writesY i then t.y else s.y
  sp := if writesSp i then t.sp else s.sp
  pc := if writesPc i then t.pc else s.pc
  flagN := if writesNZ i.mnemonic then t.flagN else s.flagN
  flagV := if writesV i.mnemonic then t.flagV else s.flagV
  flagB := if writesB i.mnemonic then t.flagB else s.flagB
  flagD := if writesD i.mnemonic then t.flagD else s.flagD
  flagI := if writesI i.mnemonic then t.flagI else s.flagI
  flagZ := if writesNZ i.mnemonic then t.flagZ else s.flagZ
  flagC := if writesC i.mnemonic then t.flagC else s.flagC
  high := s.high }

/-- An Execute slot leaves alone what its instruction is not listed as a writer of: putting it back changes nothing. -/
theorem restoreUnwritten_bodyOf (i : Instr) (s : State) :
    restoreUnwritten i s (bodyOf i s).state = (bodyOf i s).state := by
  have hshift := mode_of_shift (i := i)
  unfold bodyOf restoreUnwritten writesA writesX writesY writesSp writesPc
  cases hm : i.mnemonic with
  | asl | lsr | rol | ror =>
    obtain hacc | hmem := hshift (by simp [hm])
    · rw [hacc]; rfl
    · simp only [aslBody, lsrBody, rolBody, rorBody, plain, writeBack_eq_memWrite hmem, memWrite_eq, setZN, ite_self]
      rfl
  | sta | stx | sty | inc | dec =>
    simp only [staBody, stxBody, styBody, incBody, decBody, memWrite_eq]
    rfl
  | bcc | bcs | beq | bne | bmi | bpl | bvc | bvs =>
    simp only [bccBody, bcsBody, beqBody, bneBody, bmiBody, bplBody, bvcBody, bvsBody, branchIf_eq]
    rfl
  | pha | php | jsr =>
    simp only [phaBody, phpBody, jsrBody, push_eq]
    rfl
  | pla | plp | rts | rti =>
    simp only [plaBody, plpBody, rtsBody, rtiBody, returnFromBreak, pop_eq]
    rfl
  | brk =>
    simp only [brkBody, enterBreak, push_eq, memRead_eq]
    rfl
  | _ => rfl

/-- So does its whole meaning: the resolver and the end of the step write none of it. -/
theorem restoreUnwritten_exec {i : Instr} {s t : State} (h : exec i s = .next t) : restoreUnwritten i s t = t := by
  have hbody := restoreUnwritten_bodyOf i (resolve i s).1
  obtain rfl := eq_retire_of_exec h
  calc restoreUnwritten i s (retire (costOf i s) (bodyOf i (resolve i s).1).state)
    _ = retire (costOf i s) (restoreUnwritten i (resolve i s).1 (bodyOf i (resolve i s).1).state) := by
        rw [resolve_frame]; rfl
    _ = _ := by rw [hbody]

/-- Settles O25: a register that is not listed is one that was put back. -/
theorem registersChangeOnlyWhereListed : Obligations.RegistersChangeOnlyWhereListed := by
  intro i s
  obtain ⟨t, ht, -⟩ := exec_completes i s
  refine ⟨t, ht, ?_, ?_, ?_, ?_⟩
  all_goals
    intro h
    rw [← restoreUnwritten_exec ht]
    simp [restoreUnwritten, h]

/-! ### Flags set to a constant (10_state.md R25) -/

theorem bodyOf_flagB_of_writesB {i : Instr} {s : State} (h : writesB i.mnemonic = true) :
    (bodyOf i s).state.flagB = false := by
  unfold bodyOf
  cases hm : i.mnemonic with
  | plp => rfl
  | rti => simp [rtiBody, returnFromBreak]
  | brk => simp [brkBody, enterBreak]
  | _ => simp [writesB, hm] at h

theorem bodyOf_flagI_of_mem {i : Instr} {s : State} (h : i.mnemonic ∈ [.sei, .brk]) :
    (bodyOf i s).state.flagI = true := by
  unfold bodyOf
  cases hm : i.mnemonic with
  | sei => rfl
  | brk => simp [brkBody, enterBreak]
  | _ => simp [hm] at h

theorem exec_constantFlags {i : Instr} {s t : State} (ht : exec i s = .next t) :
    (i.mnemonic ∈ [.plp, .rti, .brk] → t.flagB = false) ∧
    (i.mnemonic = .clc → t.flagC = false) ∧ (i.mnemonic = .sec → t.flagC = true) ∧
    (i.mnemonic = .cli → t.flagI = false) ∧ (i.mnemonic ∈ [.sei, .brk] → t.flagI = true) ∧
    (i.mnemonic = .cld → t.flagD = false) ∧ (i.mnemonic = .sed → t.flagD = true) ∧
    (i.mnemonic = .clv → t.flagV = false) := by
  obtain rfl := eq_retire_of_exec ht
  refine ⟨fun h => bodyOf_flagB_of_writesB (by simpa [writesB] using h), ?_, ?_, ?_, bodyOf_flagI_of_mem, ?_, ?_, ?_⟩
  all_goals
    intro h
    simp [bodyOf, h, clcBody, secBody, cliBody, cldBody, sedBody, clvBody]

/-- Settles O26: a flag out of its column is one that was put back. -/
theorem flagsChangeOnlyWhereListed : Obligations.FlagsChangeOnlyWhereListed := by
  intro i s
  obtain ⟨t, ht, -⟩ := exec_completes i s
  refine ⟨t, ht, fun h => ⟨?_, ?_⟩, fun h => ?_, fun h => ?_, fun h => ?_, fun h => ?_, fun h => ?_,
    exec_constantFlags ht⟩
  all_goals
    rw [← restoreUnwritten_exec ht]
    simp [restoreUnwritten, h]

/-! ### The invariant (10_state.md R27, 20_memory.md R58) -/

/-- What an Execute slot stores goes through the bus or the stack, which keep the canonical form. -/
theorem bodyOf_wf (i : Instr) {s : State} (h : Memory.wf s.mem = true) : Memory.wf (bodyOf i s).state.mem = true := by
  unfold bodyOf
  cases i.mnemonic with
  | sta | stx | sty | inc | dec => exact memWrite_wf _ _ h
  | asl | lsr | rol | ror => exact writeBack_wf _ _ h
  | pha | php => exact push_wf _ h
  | jsr => exact push_wf _ (push_wf _ h)
  | brk => exact enterBreak_wf h
  | pla | plp | rts | rti => simpa [plaBody, plpBody, rtsBody, rtiBody, returnFromBreak_mem] using h
  | bcc | bcs | beq | bne | bmi | bpl | bvc | bvs =>
    simpa [bccBody, bcsBody, beqBody, bneBody, bmiBody, bplBody, bvcBody, bvsBody, branchIf_eq] using h
  | _ => exact h

theorem exec_wf {i : Instr} {s t : State} (hwf : Memory.wf s.mem = true) (h : exec i s = .next t) :
    Memory.wf t.mem = true := by
  obtain rfl := eq_retire_of_exec h
  exact bodyOf_wf i (by rwa [resolve, resolveMode_mem])

/-- `B` is 0 after an instruction that writes it, and what it was after any other. -/
theorem exec_flagB {i : Instr} {s t : State} (hB : s.flagB = false) (h : exec i s = .next t) : t.flagB = false := by
  cases hw : writesB i.mnemonic with
  | false =>
    rw [← restoreUnwritten_exec h]
    simpa [restoreUnwritten, hw] using hB
  | true =>
    obtain rfl := eq_retire_of_exec h
    exact bodyOf_flagB_of_writesB hw

theorem step_flagB {s t : State} (hB : s.flagB = false) (h : step s = .next t) : t.flagB = false := by
  obtain ⟨i, f, hf, hexec⟩ := exec_of_step h
  exact exec_flagB (by rwa [hf]) hexec

/-- Settles O22: a fetch touches neither the memory nor `B`, and every meaning keeps both conditions. -/
theorem stepKeepsTheInvariant : Obligations.StepKeepsTheInvariant := by
  intro s t ⟨hwf, hB⟩ h
  obtain ⟨i, f, hf, hexec⟩ := exec_of_step h
  exact ⟨exec_wf (by rwa [hf]) hexec, step_flagB hB h⟩

/-- Settles O21: empty memory is canonical, and a Reset clears `B` and leaves the memory. -/
theorem invariantHoldsAfterReset : Obligations.InvariantHoldsAfterReset :=
  ⟨⟨rfl, rfl⟩, fun _ _ hwf => ⟨hwf, rfl⟩⟩

end Sys2Proof.Machine
end

section
/-!
SUPPORT. The elements of the state that no instruction's result depends on (10_state.md R17, R18, R28 to R31): replacing
them beforehand replaces them afterwards, where the instruction has not written them, and changes nothing else; then
O30, O31 and O32.
-/
namespace Sys2Proof.Machine

/-- Values for the two latches, `I`, `D`, `temp` and `cycles`. -/
structure Inert where
  dataLatch : Byte
  effectiveAddress : Word
  flagI : Bool
  flagD : Bool
  temp : Word
  cycles : Nat

def State.withInert (s : State) (u : Inert) : State := { s with
  dataLatch := u.dataLatch, effectiveAddress := u.effectiveAddress, flagI := u.flagI, flagD := u.flagD,
  temp := u.temp, cycles := u.cycles }

/-- The values a state holds. -/
def State.inert (s : State) : Inert := ⟨s.dataLatch, s.effectiveAddress, s.flagI, s.flagD, s.temp, s.cycles⟩

/-- `u` with the latches that a mode's resolver fills, as `r` holds them. -/
def Inert.latched (u : Inert) (m : Mode) (r : State) : Inert := { u with
  dataLatch := if latchesData m then r.dataLatch else u.dataLatch
  effectiveAddress := if latchesAddress m then r.effectiveAddress else u.effectiveAddress }

/-- `u` with the ones of `I` and `D` that a mnemonic writes, as `t` holds them. -/
def Inert.flagged (u : Inert) (m : Mnemonic) (t : State) : Inert := { u with
  flagI := if writesI m then t.flagI else u.flagI
  flagD := if writesD m then t.flagD else u.flagD }

/-- A resolver reads none of them (40_step_and_addressing.md R95 to R108). -/
theorem resolve_withInert (i : Instr) (s : State) (u : Inert) : resolve i (s.withInert u) =
    ((resolve i s).1.withInert (u.latched i.mode (resolve i s).1), (resolve i s).2) := by
  unfold resolve
  cases i.mode with
  | imp | acc | imm | rel => rfl
  | zp | zpx | zpy | abs | abx | aby =>
    simp only [resolveMode, resolveZp, resolveZpx, resolveZpy, resolveAbs, resolveAbx, resolveAby, latchFrom,
      memRead_eq]
    rfl
  | ind =>
    simp only [resolveMode, resolveInd, readPair, memRead_eq]
    rfl
  | izx | izy =>
    simp only [resolveMode, resolveIzx, resolveIzy, readPair, latchFrom, memRead_eq]
    rfl

/-- An Execute slot reads a latch only in a mode that fills it; only `PHP` and `BRK` read `I` and `D`, to push them. -/
theorem bodyOf_withInert {i : Instr} {s : State} {u : Inert}
    (hdata : latchesData i.mode = true → u.dataLatch = s.dataLatch)
    (haddr : latchesAddress i.mode = true → u.effectiveAddress = s.effectiveAddress)
    (hflags : i.mnemonic ∉ [.php, .brk] ∨ u.flagI = s.flagI ∧ u.flagD = s.flagD) :
    bodyOf i (s.withInert u) =
      { bodyOf i s with state := (bodyOf i s).state.withInert (u.flagged i.mnemonic (bodyOf i s).state) } := by
  obtain ⟨d, e, bi, bd, w, n⟩ := u
  have hdata' : i.mnemonic ∉ _ → d = s.dataLatch := fun h => hdata (latchesData_of_mnemonic h)
  have haddr' : i.mnemonic ∈ _ → e = s.effectiveAddress := fun h => haddr (latchesAddress_of_mnemonic h)
  have hshift := mode_of_shift (i := i)
  unfold bodyOf
  cases hm : i.mnemonic with
  | lda | ldx | ldy | adc | sbc | and | ora | eor | bit | cmp | cpx | cpy =>
    obtain rfl := hdata' (by simp [hm])
    rfl
  | sta | stx | sty | inc | dec =>
    obtain rfl := hdata' (by simp [hm])
    obtain rfl := haddr' (by simp [hm])
    simp only [staBody, stxBody, styBody, incBody, decBody, memWrite_eq]
    rfl
  | asl | lsr | rol | ror =>
    obtain rfl := hdata' (by simp [hm])
    obtain hacc | hmem := hshift (by simp [hm])
    · rw [hacc]
      rfl
    · obtain rfl := haddr hmem
      simp only [aslBody, lsrBody, rolBody, rorBody, writeBack_eq_memWrite hmem, memWrite_eq]
      rfl
  | bcc | bcs | beq | bne | bmi | bpl | bvc | bvs =>
    obtain rfl := haddr' (by simp [hm])
    simp only [bccBody, bcsBody, beqBody, bneBody, bmiBody, bplBody, bvcBody, bvsBody, branchIf_eq]
    rfl
  | jmp | jsr =>
    obtain rfl := haddr' (by simp [hm])
    simp only [jmpBody, jsrBody, push_eq]
    rfl
  | php | brk =>
    obtain ⟨rfl, rfl⟩ := hflags.resolve_left (by simp [hm])
    simp only [phpBody, brkBody, enterBreak, push_eq, memRead_eq]
    rfl
  | pha =>
    simp only [phaBody, push_eq]
    rfl
  | pla | plp | rts | rti =>
    simp only [plaBody, plpBody, rtsBody, rtiBody, returnFromBreak, pop_eq]
    rfl
  | tax | tay | tsx | txa | txs | tya | inx | iny | dex | dey | clc | sec | cli | sei | cld | sed | clv | nop => rfl

/-- Two runs of an instruction that start apart in these elements alone end apart in them alone. -/
theorem exec_withInert {i : Instr} {s t : State} {u : Inert} (ht : exec i s = .next t)
    (hflags : i.mnemonic ∉ [.php, .brk] ∨ u.flagI = s.flagI ∧ u.flagD = s.flagD) :
    exec i (s.withInert u) = .next (t.withInert
      { (u.latched i.mode (resolve i s).1).flagged i.mnemonic t with
        temp := t.temp, cycles := u.cycles + costOf i s }) := by
  have hbody := bodyOf_withInert (i := i) (s := (resolve i s).1) (u := u.latched i.mode (resolve i s).1)
    (fun h => if_pos h) (fun h => if_pos h) (hflags.imp_right (by rw [resolve_frame]; exact id))
  obtain rfl := eq_retire_of_exec ht
  rw [exec_eq_complete, complete_eq, resolve_withInert, hbody]
  dsimp only
  rw [stepCost_eq_costOf]
  rfl

/-- So does a run that starts apart in none. -/
theorem withInert_of_exec {i : Instr} {s t : State} (ht : exec i s = .next t) :
    t.withInert { (s.inert.latched i.mode (resolve i s).1).flagged i.mnemonic t with
      temp := t.temp, cycles := s.cycles + costOf i s } = t :=
  Host.Outcome.next.inj ((exec_withInert (u := s.inert) ht (.inr ⟨rfl, rfl⟩)).symm.trans ht)

/-- Settles O30: the two runs of `exec_withInert`, apart in the latches alone. -/
theorem latchesBeforeAStepDoNotMatter : Obligations.LatchesBeforeAStepDoNotMatter := by
  intro i s d e
  obtain ⟨t, ht, -⟩ := exec_completes i s
  refine ⟨t, _, ht,
    exec_withInert (u := { s.inert with dataLatch := d, effectiveAddress := e }) ht (.inr ⟨rfl, rfl⟩), ?_⟩
  exact congrArg (fun v : State => { v with dataLatch := t.dataLatch, effectiveAddress := t.effectiveAddress })
    (withInert_of_exec ht)

/-- Settles O31: `temp` ends at its free value in both runs, and the cost is the same. -/
theorem tempAndCyclesAreNeverRead : Obligations.TempAndCyclesAreNeverRead := by
  intro i s w n
  obtain ⟨t, ht, -⟩ := exec_completes i s
  refine ⟨t, ht, (exec_withInert (u := { s.inert with temp := w, cycles := n }) ht (.inr ⟨rfl, rfl⟩)).trans ?_⟩
  exact congrArg (fun v : State => Host.Outcome.next { v with cycles := n + costOf i s }) (withInert_of_exec ht)

/-- Settles O32: all but `PHP` and `BRK`, which push the two flags. -/
theorem interruptAndDecimalFlagsAreStorageOnly : Obligations.InterruptAndDecimalFlagsAreStorageOnly := by
  intro i s bi bd hi
  obtain ⟨t, ht, -⟩ := exec_completes i s
  refine ⟨t, ht, (exec_withInert (u := { s.inert with flagI := bi, flagD := bd }) ht (.inl hi)).trans ?_⟩
  exact congrArg (fun v : State => Host.Outcome.next { v with
    flagI := if writesI i.mnemonic then t.flagI else bi, flagD := if writesD i.mnemonic then t.flagD else bd })
    (withInert_of_exec ht)

end Sys2Proof.Machine
end

section
/-!
SUPPORT. The status byte bit by bit and as a number (10_state.md R20, R21, R26, R27), and the bytes that `PHP` and `BRK`
push; then O7 and O23.
-/
namespace Sys2Proof.Machine

/-! ### The status byte -/

/-- A flag is one bit of the byte. -/
theorem flagAt_getElem (flag : Bool) {j k : Nat} (hj : j < 8) : (flagAt flag k)[j] = (flag && decide (j = k)) := by
  cases flag with
  | false => simp [flagAt]
  | true =>
    rw [Bool.eq_iff_iff]
    simp [flagAt, BitVec.getElem_one]
    omega

theorem packP_getLsbD_four (s : State) : (packP s).getLsbD 4 = s.flagB := by simp [packP, flagAt_getElem]

theorem packP_getLsbD_five (s : State) : (packP s).getLsbD 5 = true := by simp [packP, flagAt_getElem]

/-- The sum of R21, over the values of the flags. -/
theorem packP_toNat (s : State) : (packP s).toNat = 128 * s.flagN.toNat + 64 * s.flagV.toNat + 32 +
    16 * s.flagB.toNat + 8 * s.flagD.toNat + 4 * s.flagI.toNat + 2 * s.flagZ.toNat + s.flagC.toNat := by
  unfold packP
  generalize s.flagN = n, s.flagV = v, s.flagB = b, s.flagD = d, s.flagI = i, s.flagZ = z, s.flagC = c
  revert n v b d i z c
  decide +kernel

/-- Unpacking ignores bits 5 and 4 (R26). -/
theorem unpackP_and_mask (v : Byte) (s : State) : unpackP (v &&& 0xCF#8) s = unpackP v s := by
  simp [unpackP, bitOf]

/-- Packing what was unpacked gives the byte back with bit 5 set and bit 4 clear (R21, R26). -/
theorem packP_unpackP (v : Byte) (s : State) : packP (unpackP v s) = v &&& 0xCF#8 ||| 0x20#8 := by
  simp only [packP, unpackP_flagN, unpackP_flagV, unpackP_flagB, unpackP_flagD, unpackP_flagI, unpackP_flagZ,
    unpackP_flagC]
  revert v
  decide +kernel

/-- `N V B D Z C` are 0 after a Reset, `I` is 1 (R35). -/
theorem packP_hostReset (vector : Word) (s : State) : packP (hostReset vector s) = 0x24#8 := by
  simp [packP, hostReset, flagAt]

/-- Settles O7: two bytes that differ in bits 5 and 4 only are equal under the mask. -/
theorem statusByteIsPackedFlags : Obligations.StatusByteIsPackedFlags := by
  refine ⟨⟨packP_toNat, fun _ => rfl, packP_hostReset⟩, fun v w s => ⟨packP_unpackP v s, fun h => ?_, rfl⟩⟩
  rw [← unpackP_and_mask v, h, unpackP_and_mask]

/-! ### The pushed status byte -/

theorem stackSlot_eq_stackAddr (sp : Byte) : stackSlot sp = stackAddr sp := by
  revert sp
  decide +kernel

/-- A stack slot holds a byte whatever is installed above (10_state.md R11). -/
theorem peek_stackSlot (s : State) (sp : Byte) :
    peek s (stackSlot sp) = some (Memory.read s.mem (256 + sp.toNat)) := by
  rw [stackSlot_eq_stackAddr, peek, cellOf_stackAddr, Option.map_some]

/-- `PHP` leaves the status byte with bits 5 and 4 set in its slot (45_stack_flags_system.md R204). -/
theorem exec_php_pushed (s : State) : ∃ t, exec .php s = .next t ∧
    peek t (stackSlot s.sp) = some (packP s ||| 0x30#8) := by
  refine ⟨_, exec_eq_next .php s, ?_⟩
  rw [peek_stackSlot]
  simp only [retire_mem, bodyOf, Instr.mnemonic, phpBody, plain_state, push_eq]
  exact congrArg some (Memory.read_write_same _ _ _)

/-- `BRK` leaves the status byte with `I` and `B` set in its slot (60_exceptions.md R236). -/
theorem exec_brk_pushed (s : State) : ∃ t, exec .brk s = .next t ∧
    peek t (stackSlot (s.sp - 2#8)) = some (packP { s with flagI := true, flagB := true }) := by
  refine ⟨_, exec_eq_next .brk s, ?_⟩
  rw [peek_stackSlot]
  simp only [retire_mem, bodyOf, Instr.mnemonic, brkBody, plain_state, enterBreak_mem]
  exact congrArg some (Memory.read_write_same _ _ _)

/-- Settles O23: `B` stays 0 in the state, and both pushed bytes have bits 4 and 5 set. -/
theorem breakBitOnlyOnTheStack : Obligations.BreakBitOnlyOnTheStack := by
  refine ⟨fun s t hB h => ?_, fun s => ?_, fun s => ?_⟩
  · have ht := step_flagB hB h
    exact ⟨ht, (packP_getLsbD_four t).trans ht, packP_getLsbD_five t⟩
  · obtain ⟨t, ht, hp⟩ := exec_php_pushed s
    refine ⟨t, _, ht, hp, ?_, ?_⟩ <;> simp
  · obtain ⟨t, ht, hp⟩ := exec_brk_pushed s
    exact ⟨t, _, ht, hp, packP_getLsbD_four _, packP_getLsbD_five _⟩

end Sys2Proof.Machine
end

section
/-!
SUPPORT. An instruction that bytes decode to has as many operand bytes as its format takes (30_encoding.md R71, R73);
then O28.
-/
namespace Sys2Proof

open Sys2Proof.Machine

/-- Every instruction of a format has the operand bytes that the format takes. -/
def Format.sized : Format → Prop
  | .f1 instr => instr.mode.operandBytes = 0
  | .f2 build => ∀ operand, (build operand).mode.operandBytes = 1
  | .f3 build => ∀ operand, (build operand).mode.operandBytes = 2

theorem opcodeTable_sized : ∀ row ∈ opcodeTable, row.format.sized := by
  simp only [opcodeTable, opcodeRow0, opcodeRow1, opcodeRow2, opcodeRow3, opcodeRow4, opcodeRow5, opcodeRow6,
    opcodeRow7, opcodeRow8, opcodeRow9, opcodeRowA, opcodeRowB, opcodeRowC, opcodeRowD, opcodeRowE, opcodeRowF,
    List.forall_mem_append, List.forall_mem_cons, List.not_mem_nil, IsEmpty.forall_iff, implies_true, and_true,
    Format.sized]
  and_intros
  all_goals
    intros
    rfl

/-- The length of what decodes to one instruction (30_encoding.md R70, R71). -/
theorem length_of_decode {bytes : List Byte} {i : Instr} (h : decode bytes = .ok (i, [])) :
    bytes.length = 1 + i.mode.operandBytes := by
  cases bytes with
  | nil => cases h
  | cons opcode rest =>
    rw [decode] at h
    cases hrow : lookupOpcode opcode with
    | none => simp [hrow] at h
    | some row =>
      have hsized := opcodeTable_sized row (findRow_some hrow).1
      simp only [hrow] at h
      cases hf : row.format with
      | f1 instr =>
        simp only [hf, Except.ok.injEq, Prod.mk.injEq] at h
        obtain ⟨rfl, rfl⟩ := h
        rw [hf] at hsized
        rw [hsized, List.length_singleton]
      | f2 build =>
        match rest with
        | [] => simp [hf] at h
        | operand :: rest' =>
          simp only [hf, Except.ok.injEq, Prod.mk.injEq] at h
          obtain ⟨rfl, rfl⟩ := h
          rw [hf] at hsized
          rw [hsized operand]
          rfl
      | f3 build =>
        match rest with
        | [] | [_] => simp [hf] at h
        | lo :: hi :: rest' =>
          simp only [hf, Except.ok.injEq, Prod.mk.injEq] at h
          obtain ⟨rfl, rfl⟩ := h
          rw [hf] at hsized
          rw [hsized (joinBytes hi lo)]
          rfl

end Sys2Proof

namespace Sys2Proof.Machine

/-- Settles O28: the fetch advances `pc` by the instruction's length, and the instruction does not write it. -/
theorem straightLineAdvancesPc : Obligations.StraightLineAdvancesPc := by
  intro n i s hpc h
  obtain ⟨t, ht, -⟩ := exec_completes i (fetchBytes n s).2
  refine ⟨t, (step_of_decode h).trans ht, ?_⟩
  have hn : n = 1 + i.mode.operandBytes := by rw [← length_of_decode h, fetchBytes_length]
  rw [← restoreUnwritten_exec ht, fetchBytes_frame]
  simp [restoreUnwritten, hpc, hn]
  omega

end Sys2Proof.Machine
end

section
/-!
SUPPORT. The bus region by region (20_memory.md R44 to R48): which cell each kind of address has, what a read and a write
do where there is a cell and where there is none, and what a read answers after a write; then O10, O11, O12, O13 and O14.
-/
namespace Sys2Proof.Machine

/-! ### Cells of an address -/

/-- The RAM mask takes the address modulo the size of RAM. -/
theorem toNat_and_ramMask (p : Word) : (p &&& Config.ramMask).toNat = p.toNat % 2048 :=
  Nat.and_two_pow_sub_one_eq_mod p.toNat 11

theorem cellOf_ram (high : HighRegion) {p : Word} (h : p.toNat < 0x2000) : cellOf high p = some (p.toNat % 2048) := by
  rw [cellOf_low high h, toNat_and_ramMask]

theorem cellOf_flatRam {p : Word} (h : 0x2000 ≤ p.toNat) : cellOf .flatRam p = some p.toNat :=
  if_neg (Nat.not_lt.mpr h)

theorem cellOf_openBus {p : Word} (h : 0x2000 ≤ p.toNat) : cellOf .openBus p = none := if_neg (Nat.not_lt.mpr h)

theorem cellOf_device {p : Word} (h : 0x2000 ≤ p.toNat) : cellOf .device p = none := if_neg (Nat.not_lt.mpr h)

/-- With FlatBus every address has a cell (R47). -/
theorem cellOf_flatRam_isSome (p : Word) : (cellOf .flatRam p).isSome := by
  by_cases h : p.toNat < 0x2000
  · rw [cellOf_ram _ h]; rfl
  · rw [cellOf_flatRam (Nat.le_of_not_lt h)]; rfl

/-- The aliases of a RAM byte all have the cell of the lowest of them (R48). -/
theorem cellOf_mirror (high : HighRegion) {base : Word} (k : Fin 4) (h : base.toNat < 0x0800) :
    cellOf high (base + BitVec.ofNat 16 (0x0800 * k.val)) = some base.toNat := by
  have hk := k.isLt
  have hp : (base + BitVec.ofNat 16 (0x0800 * k.val)).toNat = base.toNat + 2048 * k.val := by
    rw [BitVec.toNat_add, BitVec.toNat_ofNat]
    omega
  rw [cellOf_ram high (by omega), hp]
  congr 1
  omega

theorem sameByte_ram {high : HighRegion} {p q : Word} (hp : p.toNat < 0x2000) (hq : q.toNat < 0x2000) :
    SameByte high p q ↔ q.toNat % 2048 = p.toNat % 2048 := by
  simp [SameByte, cellOf_ram, hp, hq, eq_comm]

/-- FlatBus's RAM has no mirrors (R47). -/
theorem sameByte_flatRam {p q : Word} (hp : 0x2000 ≤ p.toNat) : SameByte .flatRam p q ↔ q = p := by
  rw [SameByte, cellOf_flatRam hp]
  by_cases hq : q.toNat < 0x2000
  · have hne : q ≠ p := by rintro rfl; omega
    have hcell : p.toNat ≠ q.toNat % 2048 := by omega
    simp [cellOf_ram, hq, hne, hcell]
  · simp [cellOf_flatRam (Nat.le_of_not_lt hq), ← BitVec.toNat_inj, eq_comm]

/-! ### Where the bus holds a byte -/

theorem memRead_of_cellOf {s : State} {p : Word} {c : Nat} (h : cellOf s.high p = some c) : memRead p s =
    (Memory.read s.mem c, { s with busLog := .read p (Memory.read s.mem c) :: s.busLog }) :=
  memRead_held (by rw [peek, h, Option.map_some])

theorem memWrite_of_cellOf {s : State} {p : Word} {c : Nat} (v : Byte) (h : cellOf s.high p = some c) :
    memWrite p v s = { s with mem := Memory.write s.mem c v, busLog := .write p v :: s.busLog } := by
  rw [memWrite_eq, h]
  rfl

/-- The bus holds a byte exactly where there is a cell, and a read answers it. -/
theorem peek_eq_memRead {s : State} {p : Word} (h : (cellOf s.high p).isSome) : peek s p = some (memRead p s).1 := by
  obtain ⟨c, hc⟩ := Option.isSome_iff_exists.mp h
  rw [memRead_of_cellOf hc, peek, hc, Option.map_some]

/-- After a write the bus holds the byte at every name of the address, and elsewhere what it held (R45, R48). -/
theorem peek_after_memWrite (s : State) (p q : Word) (v : Byte) :
    peek (memWrite p v s) q = if SameByte s.high p q then some v else peek s q := by
  rw [peek_memWrite, peek_poke]

/-- So does a read answer it, where the bus holds a byte. -/
theorem memRead_after_memWrite {s : State} {q : Word} (p : Word) (v : Byte) (h : (cellOf s.high q).isSome) :
    (memRead q (memWrite p v s)).1 = if SameByte s.high p q then v else (memRead q s).1 := by
  apply Option.some.inj
  rw [← peek_eq_memRead (by rwa [memWrite_high]), peek_after_memWrite, peek_eq_memRead h, apply_ite some]

/-- Settles O10: below `0x2000` the cell is the address modulo 2048. -/
theorem ramReadReturnsLastWrite : Obligations.RamReadReturnsLastWrite := by
  intro s p q v hp hq
  have hcell := cellOf_ram s.high hp
  have hq' : (cellOf s.high q).isSome := by simp [cellOf_ram, hq]
  refine ⟨memRead_of_cellOf hcell, memWrite_of_cellOf v hcell, ?_⟩
  simp only [memRead_after_memWrite p v hq', sameByte_ram hp hq]

/-- Settles O11: the two aliases have one cell. -/
theorem ramAliasesNameOneByte : Obligations.RamAliasesNameOneByte := by
  intro s base j k v hbase p q
  have hp : cellOf s.high p = some base.toNat := cellOf_mirror s.high j hbase
  have hq : cellOf s.high q = some base.toNat := cellOf_mirror s.high k hbase
  have hheld : peek (memWrite p v s) q = some v := by
    rw [peek_after_memWrite, if_pos ⟨by simp [hp], hp.trans hq.symm⟩]
  refine ⟨by rw [peek, peek, hp, hq], hheld, by rw [memRead_held hheld], ?_⟩
  rw [fetch8_held (s := { memWrite p v s with pc := q }) hheld]

/-- Settles O13: with FlatBus the cell of an address above `0x1FFF` is the address, and every address has one. -/
theorem flatBusIsPlainRam : Obligations.FlatBusIsPlainRam := by
  intro s p q v hflat hp
  have hcell : cellOf s.high p = some p.toNat := by rw [hflat, cellOf_flatRam hp]
  have hsame : SameByte s.high p q ↔ q = p := by rw [hflat, sameByte_flatRam hp]
  have hq : (cellOf s.high q).isSome := by rw [hflat]; exact cellOf_flatRam_isSome q
  refine ⟨memRead_of_cellOf hcell, peek_eq_memRead (by simp [hcell]), memWrite_of_cellOf v hcell, ?_, ?_⟩
  · simp only [peek_after_memWrite, hsame]
  · simp only [memRead_after_memWrite p v hq, hsame]

/-! ### Where the bus holds none -/

theorem memWrite_open {s : State} {p : Word} (v : Byte) (h : cellOf s.high p = none) :
    memWrite p v s = { s with busLog := .write p v :: s.busLog } := by
  rw [memWrite_eq, h]
  rfl

/-- On the open bus a read answers the free value of the draw it takes (R46; log 5). -/
theorem memRead_openBus {s : State} {p : Word} (hopen : s.high = .openBus) (hp : 0x2000 ≤ p.toNat) :
    memRead p s = (Config.freeByte s.draws,
      { s with draws := s.draws + 1, busLog := .read p (Config.freeByte s.draws) :: s.busLog }) := by
  have hv : highValue p s = Config.freeByte s.draws := by rw [highValue, hopen]
  rw [memRead_open (by rw [hopen, cellOf_openBus hp]), hv]
  rfl

/-- A pointer read from the open bus is made of the next two free values, low byte first (20_memory.md R50). -/
theorem readPair_openBus {s : State} {p q : Word} (hopen : s.high = .openBus) (hp : 0x2000 ≤ p.toNat)
    (hq : 0x2000 ≤ q.toNat) :
    (readPair p q s).1 = joinBytes (Config.freeByte (s.draws + 1)) (Config.freeByte s.draws) := by
  have hlo := memRead_openBus hopen hp
  have hhi : (memRead q (memRead p s).2).1 = Config.freeByte (s.draws + 1) := by
    rw [memRead_openBus (by rwa [memRead_high]) hq, hlo]
  rw [readPair, hhi, hlo]

/-- The state in which `BRK` reads its vector: the three bytes are pushed, `I` is set, `B` is clear (60_exceptions.md
R236). -/
def afterBreakPushes (s : State) : State :=
  let first := push (highByte (s.pc + 1#16)) { s with pc := s.pc + 1#16, flagI := true }
  let second := push (lowByte first.pc) first
  { push (packP { second with flagB := true }) { second with flagB := true } with flagB := false }

/-- `BRK` goes on where its vector points. -/
theorem enterBreak_eq (s : State) : enterBreak s =
    { (readPair Config.brkVectorLow Config.brkVectorHigh (afterBreakPushes s)).2 with
      pc := (readPair Config.brkVectorLow Config.brkVectorHigh (afterBreakPushes s)).1 } := rfl

@[simp] theorem afterBreakPushes_high (s : State) : (afterBreakPushes s).high = s.high := by simp [afterBreakPushes]

@[simp] theorem afterBreakPushes_draws (s : State) : (afterBreakPushes s).draws = s.draws := by simp [afterBreakPushes]

/-- Before it takes the trap, `BRK`'s Implied resolver fills `data_latch` alone (40_step_and_addressing.md R96). -/
theorem exec_brk_eq (s : State) :
    exec .brk s = .next (retire (costOf .brk s) (enterBreak { s with dataLatch := s.a })) := exec_eq_next .brk s

/-- Settles O12: `BRK`'s vector lies in HighRegion, and its pushes take no draw. -/
theorem openBusReadIsAFreeValue : Obligations.OpenBusReadIsAFreeValue := by
  refine ⟨fun s p v hopen hp => ⟨memRead_openBus hopen hp, ?_⟩, fun s hopen => ⟨_, exec_brk_eq s, ?_⟩⟩
  · exact memWrite_open v (by rw [hopen, cellOf_openBus hp])
  · rw [retire_pc, enterBreak_eq, readPair_openBus (by rwa [afterBreakPushes_high]) (by decide) (by decide),
      afterBreakPushes_draws, joinBytes_toNat]

/-! ### A device (R46, R53) -/

/-- A device answers from the transactions that reached it (log 6). -/
theorem memRead_device {s : State} {p : Word} (hdev : s.high = .device) (hp : 0x2000 ≤ p.toNat) :
    (memRead p s).1 = Config.deviceRead (s.busLog.filter inHighRegion) p := by
  rw [memRead_open (by rw [hdev, cellOf_device hp]), highValue, hdev]

@[simp] theorem inHighRegion_read (p : Word) (v : Byte) : inHighRegion (.read p v) = decide (0x2000 ≤ p.toNat) := rfl
@[simp] theorem inHighRegion_write (p : Word) (v : Byte) : inHighRegion (.write p v) = decide (0x2000 ≤ p.toNat) := rfl

/-- Settles O14: the device's history is the part of the record in its region, which a RAM transaction leaves alone. -/
theorem deviceAnswersFromItsOwnTransactions : Obligations.DeviceAnswersFromItsOwnTransactions := by
  intro s p q v hdev hp hq
  have hanswer := memRead_device hdev hp
  refine ⟨hanswer, ?_, ?_, memRead_mem p s, ?_, ?_⟩
  · rw [memRead_device (by rwa [memRead_high]) hp, memRead_busLog, hanswer]
    simp [hq]
  · rw [memRead_device (by rwa [memWrite_high]) hp, memWrite_busLog, hanswer]
    simp [hq]
  · rw [memWrite_open v (by rw [hdev, cellOf_device hp])]
  · rw [memWrite_busLog]
    simp [hp]

end Sys2Proof.Machine
end

section
/-!
SUPPORT. What an instruction stores, address by address (40_step_and_addressing.md R112); then O27.
-/
namespace Sys2Proof.Machine

@[simp] theorem resolve_sp (i : Instr) (s : State) : (resolve i s).1.sp = s.sp := by rw [resolve_frame]
@[simp] theorem resolve_high (i : Instr) (s : State) : (resolve i s).1.high = s.high := by rw [resolve_frame]

@[simp] theorem peek_resolve (i : Instr) (s : State) (q : Word) : peek (resolve i s).1 q = peek s q := by
  rw [resolve_frame]
  rfl

/-- A write is not seen at the address of another byte (20_memory.md R45). -/
theorem peek_memWrite_of_not_sameByte {s : State} {p q : Word} (v : Byte) (h : ¬ SameByte s.high p q) :
    peek (memWrite p v s) q = peek s q := by
  rw [peek_after_memWrite, if_neg h]

theorem peek_push_of_not_sameByte {s : State} {q : Word} (v : Byte) (h : ¬ SameByte s.high (stackAddr s.sp) q) :
    peek (push v s) q = peek s q := by
  rw [peek_push, peek_poke, if_neg h]

/-- A shift or rotate in Accumulator mode stores nothing; in the others, at the effective address (43_shift_incdec.md
R160). -/
theorem peek_writeBack_of_not_sameByte {s : State} {q : Word} {m : Mode} (v : Byte)
    (h : m = .acc ∨ ¬ SameByte s.high s.effectiveAddress q) : peek (writeBack m v s) q = peek s q := by
  unfold writeBack
  split
  · rfl
  · next hm => exact peek_memWrite_of_not_sameByte v (h.resolve_left fun hacc => hm (.inl hacc))

/-- The entry of `BRK` is seen at its three stack slots only (60_exceptions.md R236). -/
theorem peek_enterBreak_of_not_sameByte {s : State} {q : Word} (hhigh : ¬ SameByte s.high (stackAddr s.sp) q)
    (hlow : ¬ SameByte s.high (stackAddr (s.sp - 1#8)) q) (hstatus : ¬ SameByte s.high (stackAddr (s.sp - 2#8)) q) :
    peek (enterBreak s) q = peek s q := by
  rw [enterBreak_eq]
  calc peek (readPair Config.brkVectorLow Config.brkVectorHigh (afterBreakPushes s)).2 q
    _ = peek (afterBreakPushes s) q := peek_readPair ..
    _ = _ := peek_push_of_not_sameByte _ (by simpa [BitVec.sub_sub] using hstatus)
    _ = _ := peek_push_of_not_sameByte _ (by simpa using hlow)
    _ = peek s q := peek_push_of_not_sameByte _ hhigh

/-- An Execute slot, run after its resolver, leaves every byte but those at its stored addresses. -/
theorem peek_bodyOf {i : Instr} {s : State} {q : Word} (h : ∀ p ∈ storedAddresses i s, ¬ SameByte s.high p q) :
    peek (bodyOf i (resolve i s).1).state q = peek s q := by
  rw [← resolve_high i, storedAddresses, ← resolve_sp i] at h
  rw [← peek_resolve i s q]
  generalize (resolve i s).1 = r at h ⊢
  unfold bodyOf
  cases hm : i.mnemonic with
  | sta | stx | sty | inc | dec =>
    simp only [hm, List.forall_mem_singleton] at h
    exact peek_memWrite_of_not_sameByte _ h
  | asl | lsr | rol | ror =>
    refine peek_writeBack_of_not_sameByte _ (or_iff_not_imp_left.mpr fun hacc => ?_)
    simpa [hm, hacc] using h
  | pha | php =>
    simp only [hm, List.forall_mem_singleton] at h
    exact peek_push_of_not_sameByte _ h
  | jsr =>
    simp only [hm, List.forall_mem_cons] at h
    obtain ⟨hhigh, hlow, -⟩ := h
    exact (peek_push_of_not_sameByte _ (by simpa using hlow)).trans (peek_push_of_not_sameByte _ hhigh)
  | brk =>
    simp only [hm, List.forall_mem_cons] at h
    obtain ⟨hhigh, hlow, hstatus, -⟩ := h
    exact peek_enterBreak_of_not_sameByte hhigh hlow hstatus
  | pla | plp | rts | rti => simp [plaBody, plpBody, rtsBody, rtiBody, returnFromBreak, peek]
  | bcc | bcs | beq | bne | bmi | bpl | bvc | bvs =>
    simp only [bccBody, bcsBody, beqBody, bneBody, bmiBody, bplBody, bvcBody, bvsBody, branchIf_eq]
    rfl
  | _ => rfl

/-- Settles O27: neither the resolver nor the end of a step stores, and an Execute slot stores where it is listed to. -/
theorem memoryChangesOnlyWhereStored : Obligations.MemoryChangesOnlyWhereStored := by
  intro i s
  obtain ⟨t, ht, -⟩ := exec_completes i s
  refine ⟨t, ht, ?_, fun q h => ?_⟩
  · rw [← restoreUnwritten_exec ht]
    rfl
  · obtain rfl := eq_retire_of_exec ht
    rw [peek_retire, peek_bodyOf h]

end Sys2Proof.Machine
end

section
/-!
SUPPORT. A table entry and an operand of its format determine an instruction; decoding reads exactly the bytes of such a
pair, and the table's instructions are encoded by the same pair (30_encoding.md R70 to R74). Then O1 to O6.
-/
namespace Sys2Proof

open Sys2Proof.Machine

/-! ### A format and its operand (30_encoding.md R71, R72) -/

/-- The instruction a format makes of an operand, if the operand is of that format. -/
def Format.build : Format → Operand → Option Instr
  | .f1 instr, .none => some instr
  | .f2 build, .byte value => some (build value)
  | .f3 build, .word value => some (build value)
  | _, _ => none

/-- How many operand bytes a format takes. -/
def Format.operandBytes : Format → Nat
  | .f1 _ => 0
  | .f2 _ => 1
  | .f3 _ => 2

theorem Format.build_cases {format : Format} {operand : Operand} {i : Instr} (h : format.build operand = some i) :
    (∃ instr, format = .f1 instr ∧ operand = .none ∧ instr = i) ∨
    (∃ build value, format = .f2 build ∧ operand = .byte value ∧ build value = i) ∨
    (∃ build value, format = .f3 build ∧ operand = .word value ∧ build value = i) := by
  unfold build at h
  split at h
  next instr => exact .inl ⟨instr, rfl, rfl, Option.some.inj h⟩
  next build value => exact .inr (.inl ⟨build, value, rfl, rfl, Option.some.inj h⟩)
  next build value => exact .inr (.inr ⟨build, value, rfl, rfl, Option.some.inj h⟩)
  next => cases h

theorem Format.length_bytes_of_build {format : Format} {operand : Operand} {i : Instr}
    (h : format.build operand = some i) : operand.bytes.length = format.operandBytes := by
  obtain ⟨_, rfl, rfl, -⟩ | ⟨_, _, rfl, rfl, -⟩ | ⟨_, _, rfl, rfl, -⟩ := build_cases h <;> rfl

/-- Any operand bytes are legal (30_encoding.md R77): as many as the format takes make an instruction. -/
theorem Format.exists_build_of_length {format : Format} {bytes : List Byte}
    (h : bytes.length = format.operandBytes) : ∃ operand i, format.build operand = some i ∧ operand.bytes = bytes := by
  cases format with
  | f1 instr => exact ⟨.none, instr, rfl, (List.eq_nil_of_length_eq_zero h).symm⟩
  | f2 build =>
    obtain ⟨value, rfl⟩ := List.length_eq_one_iff.mp h
    exact ⟨.byte value, build value, rfl, rfl⟩
  | f3 build =>
    obtain ⟨lo, hi, rfl⟩ := List.length_eq_two.mp h
    exact ⟨.word (joinBytes hi lo), build (joinBytes hi lo), rfl, by simp [Operand.bytes]⟩

/-! ### What decoding answers (30_encoding.md R70 to R74, R77) -/

theorem decode_of_lookupOpcode_eq_none {opcode : Byte} (h : lookupOpcode opcode = none) (rest : List Byte) :
    decode (opcode :: rest) = .error (.illegalOpcode opcode) := by
  rw [decode, h]

theorem decode_of_build {opcode : Byte} {row : OpcodeRow} {operand : Operand} {i : Instr}
    (hrow : lookupOpcode opcode = some row) (hbuild : row.format.build operand = some i) (rest : List Byte) :
    decode (opcode :: operand.bytes ++ rest) = .ok (i, rest) := by
  simp only [List.cons_append, decode, hrow]
  obtain ⟨instr, hf, rfl, rfl⟩ | ⟨build, value, hf, rfl, rfl⟩ | ⟨build, value, hf, rfl, rfl⟩ :=
    Format.build_cases hbuild
  all_goals simp [hf, Operand.bytes]

/-- What decodes is an entry's opcode, the bytes of an operand of its format, and the bytes left over. -/
theorem exists_build_of_decode {bytes rest : List Byte} {i : Instr} (h : decode bytes = .ok (i, rest)) :
    ∃ row operand, lookupOpcode row.opcode = some row ∧ row.format.build operand = some i ∧
      bytes = row.opcode :: operand.bytes ++ rest := by
  cases bytes with
  | nil => cases h
  | cons opcode tail =>
    rw [decode] at h
    cases hrow : lookupOpcode opcode with
    | none => simp [hrow] at h
    | some row =>
      obtain rfl := (findRow_some hrow).2
      simp only [hrow] at h
      cases hf : row.format with
      | f1 instr =>
        simp only [hf, Except.ok.injEq, Prod.mk.injEq] at h
        obtain ⟨rfl, rfl⟩ := h
        exact ⟨row, .none, hrow, by rw [hf]; rfl, rfl⟩
      | f2 build =>
        match tail with
        | [] => simp [hf] at h
        | value :: _ =>
          simp only [hf, Except.ok.injEq, Prod.mk.injEq] at h
          obtain ⟨rfl, rfl⟩ := h
          exact ⟨row, .byte value, hrow, by rw [hf]; rfl, rfl⟩
      | f3 build =>
        match tail with
        | [] | [_] => simp [hf] at h
        | lo :: hi :: _ =>
          simp only [hf, Except.ok.injEq, Prod.mk.injEq] at h
          obtain ⟨rfl, rfl⟩ := h
          exact ⟨row, .word (joinBytes hi lo), hrow, by rw [hf]; rfl, by simp [Operand.bytes]⟩

/-- Exactly a legal opcode with the operand bytes of its format decodes with nothing left over. -/
theorem exists_decode_cons_iff {opcode : Byte} {operands : List Byte} :
    (∃ i, decode (opcode :: operands) = .ok (i, [])) ↔
      ∃ row, lookupOpcode opcode = some row ∧ operands.length = row.format.operandBytes := by
  constructor
  · rintro ⟨i, h⟩
    obtain ⟨row, operand, hrow, hbuild, hbytes⟩ := exists_build_of_decode h
    rw [List.append_nil] at hbytes
    obtain ⟨rfl, rfl⟩ := List.cons.inj hbytes
    exact ⟨row, hrow, Format.length_bytes_of_build hbuild⟩
  · rintro ⟨row, hrow, hlength⟩
    obtain ⟨operand, i, hbuild, rfl⟩ := Format.exists_build_of_length hlength
    exact ⟨i, by simpa using decode_of_build hrow hbuild []⟩

/-! ### The table against the encoder and the lists of the spec (30_encoding.md R76, R77) -/

/-- The entry at an instruction's opcode makes that instruction of its operand. -/
theorem lookupOpcode_opcode_build (i : Instr) :
    (lookupOpcode i.opcode).bind (fun row => row.format.build i.operand) = some i := by
  cases i <;> rfl

/-- The encoder writes every instruction of a format as this opcode and its operand bytes, low byte first. -/
def Format.encodedUnder (opcode : Byte) : Format → Prop
  | .f1 instr => encode instr = [opcode]
  | .f2 build => ∀ value, encode (build value) = [opcode, value]
  | .f3 build => ∀ value, encode (build value) = [opcode, lowByte value, highByte value]

theorem opcodeTable_encodedUnder : ∀ row ∈ opcodeTable, row.format.encodedUnder row.opcode := by
  simp only [opcodeTable, opcodeRow0, opcodeRow1, opcodeRow2, opcodeRow3, opcodeRow4, opcodeRow5, opcodeRow6,
    opcodeRow7, opcodeRow8, opcodeRow9, opcodeRowA, opcodeRowB, opcodeRowC, opcodeRowD, opcodeRowE, opcodeRowF,
    List.forall_mem_append, List.forall_mem_cons, List.not_mem_nil, IsEmpty.forall_iff, implies_true, and_true,
    Format.encodedUnder]
  and_intros
  all_goals
    intros
    rfl

theorem Format.encode_of_build {opcode : Byte} {format : Format} {operand : Operand} {i : Instr}
    (hencode : format.encodedUnder opcode) (hbuild : format.build operand = some i) :
    encode i = opcode :: operand.bytes := by
  obtain ⟨instr, rfl, rfl, rfl⟩ | ⟨build, value, rfl, rfl, rfl⟩ | ⟨build, value, rfl, rfl, rfl⟩ :=
    build_cases hbuild
  · exact hencode
  · exact hencode value
  · exact hencode value

/-- The formats take as many operand bytes as the columns of the map say. -/
theorem opcodeTable_operandBytes : ∀ row ∈ opcodeTable, row.format.operandBytes = operandCount row.opcode := by
  decide +kernel

/-- The legal opcodes of the table and the illegal bytes of the spec's list are together the 256 bytes, each once. -/
theorem opcodes_append_illegalOpcodes_perm :
    (opcodeTable.map (·.opcode) ++ illegalOpcodes).Perm (List.ofFn BitVec.ofFin) := by
  decide +kernel

theorem opcodes_append_illegalOpcodes_nodup : (opcodeTable.map (·.opcode) ++ illegalOpcodes).Nodup :=
  opcodes_append_illegalOpcodes_perm.nodup_iff.mpr (List.nodup_ofFn.mpr fun _ _ => congrArg BitVec.toFin)

theorem mem_opcodes_or_mem_illegalOpcodes (opcode : Byte) :
    opcode ∈ opcodeTable.map (·.opcode) ∨ opcode ∈ illegalOpcodes := by
  rw [← List.mem_append, opcodes_append_illegalOpcodes_perm.mem_iff, List.mem_ofFn]
  exact ⟨opcode.toFin, rfl⟩

theorem findRow_eq_none_iff {opcode : Byte} {rows : List OpcodeRow} :
    findRow opcode rows = none ↔ opcode ∉ rows.map (·.opcode) := by
  induction rows with
  | nil => simp [findRow]
  | cons first rest ih =>
    rw [findRow, List.map_cons, List.mem_cons, not_or, ← ih]
    by_cases h : first.opcode = opcode
    · simp [h]
    · simp [h, Ne.symm h]

/-- The bytes without an entry are those of the spec's list. -/
theorem lookupOpcode_eq_none_iff (opcode : Byte) : lookupOpcode opcode = none ↔ opcode ∈ illegalOpcodes := by
  rw [lookupOpcode, findRow_eq_none_iff]
  constructor
  · exact (mem_opcodes_or_mem_illegalOpcodes opcode).resolve_left
  · exact fun hillegal hlegal => List.disjoint_of_nodup_append opcodes_append_illegalOpcodes_nodup hlegal hillegal

/-- Decoding and encoding are inverse to each other. -/
theorem decode_eq_ok_iff {bytes rest : List Byte} {i : Instr} :
    decode bytes = .ok (i, rest) ↔ bytes = encode i ++ rest := by
  constructor
  · intro h
    obtain ⟨row, operand, hrow, hbuild, rfl⟩ := exists_build_of_decode h
    rw [Format.encode_of_build (opcodeTable_encodedUnder row (findRow_some hrow).1) hbuild]
  · rintro rfl
    obtain ⟨row, hrow, hbuild⟩ := Option.bind_eq_some_iff.mp (lookupOpcode_opcode_build i)
    exact decode_of_build hrow hbuild rest

/-! ### The statements -/

/-- Settles O1: the entry at the opcode makes the instruction of the operand's bytes. -/
theorem decodeOfEncodeIsIdentity : Obligations.DecodeOfEncodeIsIdentity :=
  fun _ _ => decode_eq_ok_iff.mpr rfl

/-- Settles O2: what decodes is an entry's opcode with an operand, and the encoder writes just that. -/
theorem decodedBytesAreTheEncoding : Obligations.DecodedBytesAreTheEncoding :=
  fun _ _ _ => decode_eq_ok_iff.mp

/-- Settles O3: the illegal bytes are those without an entry, and the columns count the operands of the formats. -/
theorem decoderAcceptsExactlyWellFormedImages : Obligations.DecoderAcceptsExactlyWellFormedImages := by
  intro bytes
  cases bytes with
  | nil => simp [wellFormed, decode]
  | cons opcode operands =>
    rw [exists_decode_cons_iff]
    cases hrow : lookupOpcode opcode with
    | none => simp [wellFormed, (lookupOpcode_eq_none_iff opcode).mp hrow]
    | some row =>
      obtain ⟨hmem, rfl⟩ := findRow_some hrow
      have hlegal : row.opcode ∉ illegalOpcodes := by simp [← lookupOpcode_eq_none_iff, hrow]
      simp [wellFormed, hlegal, opcodeTable_operandBytes row hmem]

/-- Settles O4, by the facts about the table; a byte without an entry is refused before its operands are read. -/
theorem illegalBytesHaveNoTableEntry : Obligations.IllegalBytesHaveNoTableEntry :=
  ⟨rfl, opcodes_append_illegalOpcodes_nodup.of_append_left, rfl, lookupOpcode_eq_none_iff,
    fun b h => decode_of_lookupOpcode_eq_none ((lookupOpcode_eq_none_iff b).mpr h)⟩

/-- Settles O5, by the instruction's entry and the bounds that hold of every entry. -/
theorem tableEntryMatchesInstruction : Obligations.TableEntryMatchesInstruction := by
  intro i
  obtain ⟨row, hrow, hentry⟩ := Option.map_eq_some_iff.mp (lookupOpcode_opcode i)
  obtain ⟨hmnemonic, hmode⟩ := Prod.mk.inj hentry
  obtain ⟨hmem, hopcode⟩ := findRow_some hrow
  obtain ⟨hlow, hhigh, -⟩ := opcodeTable_baseCycles row hmem
  exact ⟨row, hrow, hopcode, hmnemonic, hmode, hlow, hhigh⟩

/-- Settles O6: each byte string is the encoding of its instruction. -/
theorem specExampleBytesDecode : Obligations.SpecExampleBytesDecode := by
  unfold Obligations.SpecExampleBytesDecode
  and_intros
  all_goals exact decode_eq_ok_iff.mpr rfl

end Sys2Proof
end

section
/-!
SUPPORT. The thirteen resolvers, mode by mode (40_step_and_addressing.md R95 to R110): what they leave in the latches,
whether they report a crossed page, what they read; then O33 to O37, O24 and O29.
-/
namespace Sys2Proof.Machine

theorem resolve_of_mode {i : Instr} {m : Mode} (h : i.mode = m) (s : State) :
    resolve i s = resolveMode m i.operand s := by
  rw [resolve, h]

/-! ### Modes without a data read (R96, R97, R98, R108) -/

/-- A sign-extended displacement is added as the number it stands for. -/
theorem toNat_add_sext16 (p : Word) (d : Byte) :
    ((p + sext16 d).toNat : Int) = ((p.toNat : Int) + d.toInt) % 65536 := by
  have hsext : (sext16 d).toInt = d.toInt := BitVec.toInt_signExtend_of_le (by decide)
  rw [BitVec.toInt_eq_toNat_cond] at hsext
  rw [BitVec.toNat_add]
  split at hsext <;> omega

/-- Settles O33: each of the four resolvers is one record update, and the displacement is added as a signed number. -/
theorem modesWithoutADataRead : Obligations.ModesWithoutADataRead := by
  refine ⟨fun i s => ⟨fun h => ?_, fun h => resolve_of_mode h s⟩, fun i s h => ?_⟩
  · rw [List.mem_pair] at h
    obtain h | h := h <;> exact resolve_of_mode h s
  · rw [resolve_of_mode h]
    exact ⟨toNat_add_sext16 s.pc _, rfl, rfl, rfl⟩

/-! ### One latching read (R99 to R104) -/

/-- The read of the effective address is recorded with the byte it latches. -/
@[simp] theorem latchFrom_busLog (p : Word) (s : State) :
    (latchFrom p s).busLog = .read p (latchFrom p s).dataLatch :: s.busLog := by
  simp [latchFrom]

/-- A zero-page address is RAM, so what a read of it answers is the byte held there. -/
theorem peek_zext16 (s : State) (b : Byte) : peek s (zext16 b) = some (memRead (zext16 b) s).1 :=
  peek_eq_memRead (by rw [cellOf_low _ (zext16_low b)]; rfl)

/-- Settles O34: the index is added to the operand as a byte, and the address is RAM. -/
theorem zeroPageModesWrapInPageZero : Obligations.ZeroPageModesWrapInPageZero := by
  intro i s
  refine ⟨fun h => ?_, fun h => ?_, fun h => ?_, fun h => ?_⟩
  · simp [resolve_of_mode h, resolveMode, resolveZp]
  · simp [resolve_of_mode h, resolveMode, resolveZpx]
  · simp [resolve_of_mode h, resolveMode, resolveZpy]
  · simp only [List.mem_cons, List.not_mem_nil, or_false] at h
    obtain h | h | h := h
    all_goals simp [resolve_of_mode h, resolveMode, resolveZp, resolveZpx, resolveZpy, peek_zext16, latchFrom_dataLatch]

/-- The page-cross flag compares page numbers. -/
theorem pageCross_eq_decide (base indexed : Word) :
    pageCross base indexed = decide (indexed.toNat / 256 ≠ base.toNat / 256) := by
  rw [Bool.eq_iff_iff]
  simp [pageCross, ← BitVec.toNat_inj]

/-- Settles O35: each of the three resolvers is one latching read, at the operand or the operand plus an index. -/
theorem absoluteModesAddTheIndex : Obligations.AbsoluteModesAddTheIndex := by
  intro i s
  refine ⟨fun h => ?_, fun h => ?_, fun h => ?_, fun h => ?_⟩
  · simp [resolve_of_mode h, resolveMode, resolveAbs]
  · simp [resolve_of_mode h, resolveMode, resolveAbx, pageCross_eq_decide]
  · simp [resolve_of_mode h, resolveMode, resolveAby, pageCross_eq_decide]
  · simp only [List.mem_cons, List.not_mem_nil, or_false] at h
    obtain h | h | h := h
    all_goals simp [resolve_of_mode h, resolveMode, resolveAbs, resolveAbx, resolveAby, latchFrom_dataLatch]

/-! ### Pointers (R105, R106, R107) -/

/-- The next address of a page, as a number. -/
theorem nextInPage_eq_ofNat (p : Word) :
    nextInPage p = BitVec.ofNat 16 (p.toNat / 256 * 256 + (p.toNat + 1) % 256) := by
  apply BitVec.eq_of_toNat_eq
  have := p.isLt
  simp [nextInPage]
  omega

/-- Settles O36: the pointer read is two reads, and the target is what they answer. -/
theorem indirectPointerStaysInItsPage : Obligations.IndirectPointerStaysInItsPage := by
  intro i s h
  simp [resolve_of_mode h, resolveMode, resolveInd, ← nextInPage_eq_ofNat, readPair]

theorem zext16_eq_ofNat (b : Byte) : zext16 b = BitVec.ofNat 16 b.toNat := (BitVec.ofNat_toNat 16 b).symm

/-- A RAM read takes no draw and does not reach a device, so it changes no later answer (20_memory.md R44, R46). -/
theorem memRead_after_ram_read {p : Word} (q : Word) (s : State) (h : p.toNat < 0x2000) :
    (memRead q (memRead p s).2).1 = (memRead q s).1 := by
  have hhigh : highValue q (memRead p s).2 = highValue q s := by
    simp [memRead_of_cellOf (cellOf_low s.high h), highValue, h]
  rw [memRead_eq q, memRead_eq q s, peek_memRead, hhigh]

/-- A pointer in page zero is two bytes that the bus holds, and two recorded reads. -/
theorem readPair_zext16 (b c : Byte) (s : State) : ∃ lo hi,
    peek s (zext16 b) = some lo ∧ peek s (zext16 c) = some hi ∧
    (readPair (zext16 b) (zext16 c) s).1.toNat = hi.toNat * 256 + lo.toNat ∧
    (readPair (zext16 b) (zext16 c) s).2.busLog = .read (zext16 c) hi :: .read (zext16 b) lo :: s.busLog := by
  refine ⟨_, _, peek_zext16 s b, peek_zext16 s c, ?_⟩
  rw [readPair_held (peek_zext16 s b) (peek_zext16 s c)]
  exact ⟨joinBytes_toNat _ _, rfl⟩

/-- Reading it changes no later answer. -/
theorem latchFrom_readPair_dataLatch (p : Word) (b c : Byte) (s : State) :
    (latchFrom p (readPair (zext16 b) (zext16 c) s).2).dataLatch = (memRead p s).1 := by
  rw [latchFrom_dataLatch, readPair, memRead_after_ram_read _ _ (zext16_low c),
    memRead_after_ram_read _ _ (zext16_low b)]

/-- Settles O37: the pointer bytes are RAM, so the bus holds them, and reading them leaves later answers as they are. -/
theorem indirectPointersWrapInPageZero : Obligations.IndirectPointersWrapInPageZero := by
  refine ⟨fun i s h => ?_, fun i s h => ?_⟩
  · have hlow : zext16 (i.operand.asByte + s.x) =
        BitVec.ofNat 16 ((i.operand.asByte.toNat + s.x.toNat) % 256) := by
      rw [zext16_eq_ofNat, BitVec.toNat_add]
    have hhigh : zext16 (i.operand.asByte + s.x + 1#8) =
        BitVec.ofNat 16 ((i.operand.asByte.toNat + s.x.toNat + 1) % 256) := by
      simp [zext16_eq_ofNat]
    obtain ⟨lo, hi, hlo, hhi, hbase, hlog⟩ :=
      readPair_zext16 (i.operand.asByte + s.x) (i.operand.asByte + s.x + 1#8) s
    simp only [resolve_of_mode h, resolveMode, resolveIzx, latchFrom_effectiveAddress, latchFrom_busLog,
      latchFrom_readPair_dataLatch, ← hlow, ← hhigh]
    exact ⟨⟨lo, hi, hlo, hhi, hbase, by rw [hlog]⟩, trivial, trivial⟩
  · have hhigh : zext16 (i.operand.asByte + 1#8) = BitVec.ofNat 16 ((i.operand.asByte.toNat + 1) % 256) := by
      simp [zext16_eq_ofNat]
    obtain ⟨lo, hi, hlo, hhi, hbase, hlog⟩ := readPair_zext16 i.operand.asByte (i.operand.asByte + 1#8) s
    simp only [resolve_of_mode h, resolveMode, resolveIzy, latchFrom_effectiveAddress, latchFrom_busLog,
      latchFrom_readPair_dataLatch, pageCross_eq_decide, ← zext16_eq_ofNat, ← hhigh]
    refine ⟨⟨lo, hi, _, hlo, hhi, rfl, ?_, ?_, by rw [hlog]⟩, trivial⟩
    · simp [hbase]
    · rw [hbase]

/-! ### The latches (R95, R110) -/

/-- A latch that a mode does not mention keeps its value. -/
theorem resolve_keeps_unmentioned (i : Instr) (s : State) :
    (i.mode ∈ [.imp, .acc, .imm] → (resolve i s).1.effectiveAddress = s.effectiveAddress) ∧
    (i.mode ∈ [.ind, .rel] → (resolve i s).1.dataLatch = s.dataLatch) := by
  unfold resolve
  cases i.mode with
  | imp | acc | imm | rel => simp [resolveMode, resolveImp, resolveAcc, resolveImm, resolveRel]
  | ind => simp [resolveMode, resolveInd]
  | zp | zpx | zpy | abs | abx | aby | izx | izy => simp

/-- Settles O24: `resolve_frame` lists the fields a resolver may write, and only three modes compare pages. -/
theorem resolversWriteOnlyTheLatches : Obligations.ResolversWriteOnlyTheLatches := fun i s =>
  ⟨resolve_frame i s, (resolve_keeps_unmentioned i s).1, (resolve_keeps_unmentioned i s).2, mode_of_pageCross⟩

/-- An Execute slot writes neither latch: it carries them along as it finds them (`bodyOf_withInert`). -/
theorem bodyOf_latches (i : Instr) (s : State) :
    (bodyOf i s).state.dataLatch = s.dataLatch ∧ (bodyOf i s).state.effectiveAddress = s.effectiveAddress := by
  have h : bodyOf i s = { bodyOf i s with
      state := (bodyOf i s).state.withInert (s.inert.flagged i.mnemonic (bodyOf i s).state) } :=
    bodyOf_withInert (u := s.inert) (fun _ => rfl) (fun _ => rfl) (.inr ⟨rfl, rfl⟩)
  exact ⟨congrArg (·.state.dataLatch) h, congrArg (·.state.effectiveAddress) h⟩

/-- Settles O29: neither the Execute slot nor the end of the step writes a latch. -/
theorem latchesHoldWhatTheResolverLeft : Obligations.LatchesHoldWhatTheResolverLeft := fun i s =>
  ⟨_, exec_eq_next i s, bodyOf_latches i _⟩

end Sys2Proof.Machine
end

section
/-!
SUPPORT. The step over whatever answers the fetch (40_step_and_addressing.md R90 to R92, R111, R113); then O18 and O16.
-/
namespace Sys2Proof.Machine

/-- Settles O18: a byte without an entry is on the spec's list, and the instruction of an entry completes. -/
theorem stepStopsOnlyOnIllegalOpcode : Obligations.StepStopsOnlyOnIllegalOpcode := by
  intro s
  cases hrow : lookupOpcode (memRead s.pc s).1 with
  | none =>
    refine .inr ⟨_, (lookupOpcode_eq_none_iff _).mp hrow, rfl, ?_⟩
    simp [step, fetchInstr, fetch8, hrow]
  | some row =>
    obtain ⟨t, ht, -⟩ :=
      exec_completes (fetchOperand row.format (fetch8 s).2).1 (fetchOperand row.format (fetch8 s).2).2
    refine .inl ⟨t, ?_⟩
    simpa [step, fetchInstr, fetch8, hrow] using ht

/-- A legal byte fetched at `pc` and the operand bytes of its format decode to an instruction (30_encoding.md R77). -/
theorem exists_decode_fetchBytes {s : State} (h : (memRead s.pc s).1 ∉ illegalOpcodes) :
    ∃ n i, decode (fetchBytes n s).1 = .ok (i, []) := by
  rw [← lookupOpcode_eq_none_iff] at h
  obtain ⟨row, hrow⟩ := Option.ne_none_iff_exists'.mp h
  exact ⟨row.format.operandBytes + 1, exists_decode_cons_iff.mpr ⟨row, hrow, fetchBytes_length _ _⟩⟩

/-- Bytes that the bus holds at `pc` are the bytes fetched. -/
theorem fetchBytes_of_bytesAt {bytes : List Byte} {s : State} (h : bytesAt s s.pc bytes = true) :
    fetchBytes bytes.length s = (bytes, afterFetch bytes s) := by
  induction bytes generalizing s with
  | nil => rfl
  | cons b rest ih =>
    rw [bytesAt, Bool.and_eq_true, beq_iff_eq] at h
    obtain ⟨hb, hrest⟩ := h
    rw [List.length_cons, fetchBytes_succ, fetch8_held hb, ih ?_, afterFetch]
    exact Eq.trans (bytesAt_congr (s := s) rest _ rfl rfl) hrest

/-- As many fetches as the decoded instruction has bytes (30_encoding.md R70). -/
theorem eq_of_decode_fetchBytes {n : Nat} {i : Instr} {s : State} (h : decode (fetchBytes n s).1 = .ok (i, [])) :
    n = 1 + i.mode.operandBytes := by
  rw [← length_of_decode h, fetchBytes_length]

/-- Settles O16: the decoded bytes are the ones the step fetches, the fetches change what `fetchBytes_frame` says, and
bytes that the bus holds are fetched as they stand. -/
theorem stepRunsTheDecodedInstruction : Obligations.StepRunsTheDecodedInstruction := by
  refine ⟨fun n i s h => ⟨step_of_decode h, eq_of_decode_fetchBytes h, fetchBytes_frame n s⟩,
    fun s => exists_decode_fetchBytes, fun bytes i s h hbytes => ?_⟩
  have hfetch := fetchBytes_of_bytesAt hbytes
  have hdecode : decode (fetchBytes bytes.length s).1 = .ok (i, []) := by rwa [hfetch]
  refine ⟨hfetch, ?_, ?_⟩
  · rw [step_of_decode hdecode, hfetch]
  · have hpc := congrArg State.pc (fetchBytes_frame bytes.length s)
    rwa [hfetch, eq_of_decode_fetchBytes hdecode] at hpc

end Sys2Proof.Machine
end

section
/-!
SUPPORT. What each operation adds to the record of bus transactions, and so each resolver and each Execute slot
(40_step_and_addressing.md R112); then O15.
-/
namespace Sys2Proof.Machine

/-- On the way from `s` to `t` the bus saw these accesses, in order, and no other. -/
def Issues (s t : State) (accesses : List (Bool × Word)) : Prop :=
  ∃ new, t.busLog = new ++ s.busLog ∧ new.reverse.map txnShape = accesses

theorem Issues.none {s t : State} (h : t.busLog = s.busLog) : Issues s t [] := ⟨[], h, rfl⟩

theorem Issues.one {s t : State} {txn : BusTxn} (h : t.busLog = txn :: s.busLog) : Issues s t [txnShape txn] :=
  ⟨[txn], h, rfl⟩

theorem Issues.trans {s t u : State} {first second : List (Bool × Word)} (h : Issues s t first)
    (k : Issues t u second) : Issues s u (first ++ second) := by
  obtain ⟨new, hnew, rfl⟩ := h
  obtain ⟨newer, hnewer, rfl⟩ := k
  exact ⟨newer ++ new, by rw [hnewer, hnew, List.append_assoc], by simp⟩

/-! ### The resolvers -/

theorem latchFrom_issues (p : Word) (s : State) : Issues s (latchFrom p s) [(false, p)] :=
  .one (latchFrom_busLog p s)

theorem readPair_issues (p q : Word) (s : State) : Issues s (readPair p q s).2 [(false, p), (false, q)] :=
  .trans (.one (memRead_busLog p s)) (.one (memRead_busLog q (memRead p s).2))

/-- A resolver issues the reads of its mode. -/
theorem resolve_issues (i : Instr) (s : State) :
    Issues s (resolve i s).1 ((resolverReads i s).map fun addr => (false, addr)) := by
  unfold resolverReads resolve
  cases i.mode with
  | imp | acc | imm | rel => exact .none rfl
  | zp | zpx | zpy | abs | abx | aby =>
    simpa [resolveMode, resolveZp, resolveZpx, resolveZpy, resolveAbs, resolveAbx, resolveAby]
      using latchFrom_issues _ s
  | ind => exact readPair_issues _ _ s
  | izx | izy =>
    simpa [resolveMode, resolveIzx, resolveIzy] using (readPair_issues _ _ s).trans (latchFrom_issues _ _)

/-! ### The Execute slots -/

theorem push_issues (v : Byte) (s : State) : Issues s (push v s) [(true, stackAddr s.sp)] :=
  .one (push_busLog v s)

theorem pop_issues (s : State) : Issues s (pop s).2 [(false, stackAddr (s.sp + 1#8))] :=
  .one (pop_busLog s)

/-- `JSR` pushes its return address, high byte first (44_control_transfer.md R190). -/
theorem jsrBody_issues (s : State) :
    Issues s (jsrBody s).state [(true, stackAddr s.sp), (true, stackAddr (s.sp - 1#8))] := by
  have hlow := push_issues (lowByte (s.pc - 1#16)) (push (highByte (s.pc - 1#16)) s)
  rw [push_sp] at hlow
  exact (push_issues _ s).trans hlow

/-- `RTS` pops it again (44_control_transfer.md R191). -/
theorem rtsBody_issues (s : State) :
    Issues s (rtsBody s).state [(false, stackAddr (s.sp + 1#8)), (false, stackAddr (s.sp + 2#8))] := by
  have hhigh := pop_issues (pop s).2
  rw [pop_sp, BitVec.add_assoc] at hhigh
  exact (pop_issues s).trans hhigh

/-- `RTI` pops the status byte first (45_stack_flags_system.md R215). -/
theorem returnFromBreak_issues (s : State) : Issues s (returnFromBreak s)
    [(false, stackAddr (s.sp + 1#8)), (false, stackAddr (s.sp + 2#8)), (false, stackAddr (s.sp + 3#8))] := by
  have hlow := pop_issues (unpackP (pop s).1 (pop s).2)
  have hhigh := pop_issues (pop (unpackP (pop s).1 (pop s).2)).2
  simp only [pop_sp, unpackP_sp, BitVec.add_assoc] at hlow hhigh
  exact (pop_issues s).trans (hlow.trans hhigh)

/-- What `BRK` pushes (60_exceptions.md R236). -/
theorem afterBreakPushes_busLog (s : State) : (afterBreakPushes s).busLog =
    .write (stackAddr (s.sp - 2#8)) (packP { s with flagI := true, flagB := true }) ::
      .write (stackAddr (s.sp - 1#8)) (lowByte (s.pc + 1#16)) ::
      .write (stackAddr s.sp) (highByte (s.pc + 1#16)) :: s.busLog := by
  simp [afterBreakPushes, BitVec.sub_sub, packP]

theorem enterBreak_issues (s : State) : Issues s (enterBreak s)
    [(true, stackAddr s.sp), (true, stackAddr (s.sp - 1#8)), (true, stackAddr (s.sp - 2#8)),
      (false, Config.brkVectorLow), (false, Config.brkVectorHigh)] := by
  have hpushes : Issues s (afterBreakPushes s) _ := ⟨[_, _, _], afterBreakPushes_busLog s, rfl⟩
  exact hpushes.trans (readPair_issues _ _ _)

/-- An Execute slot, run after its resolver, issues its instruction's own accesses. -/
theorem bodyOf_issues (i : Instr) (s : State) :
    Issues (resolve i s).1 (bodyOf i (resolve i s).1).state (ownAccesses i s) := by
  have hshift := mode_of_shift (i := i)
  rw [ownAccesses, storedAddresses, ← resolve_sp i s]
  generalize (resolve i s).1 = r
  unfold bodyOf
  cases hm : i.mnemonic with
  | sta | stx | sty | inc | dec => exact .one (txn := .write _ _) (memWrite_busLog _ _ _)
  | asl | lsr | rol | ror =>
    obtain hacc | hmem := hshift (by simp [hm])
    · rw [hacc]
      exact .none rfl
    · have hne : i.mode ≠ .acc := fun hacc => by rw [hacc] at hmem; cases hmem
      simp only [if_neg hne, aslBody, lsrBody, rolBody, rorBody, writeBack_eq_memWrite hmem]
      exact .one (txn := .write _ _) (memWrite_busLog _ _ _)
  | pha | php => exact push_issues _ r
  | jsr => exact jsrBody_issues r
  | pla | plp => exact pop_issues r
  | rts => exact rtsBody_issues r
  | rti => exact returnFromBreak_issues r
  | brk => exact enterBreak_issues r
  | bcc | bcs | beq | bne | bmi | bpl | bvc | bvs =>
    simp only [bccBody, bcsBody, beqBody, bneBody, bmiBody, bplBody, bvcBody, bvsBody, branchIf_eq]
    exact .none rfl
  | _ => exact .none rfl

/-- Settles O15: the resolver's reads, then the Execute slot's accesses; the end of the step issues none. -/
theorem busActivityOfAnInstruction : Obligations.BusActivityOfAnInstruction := by
  intro i s
  obtain ⟨new, hnew, hshape⟩ := (resolve_issues i s).trans (bodyOf_issues i s)
  exact ⟨_, new, exec_eq_next i s, hnew, hshape⟩

end Sys2Proof.Machine
end

section
/-!
SUPPORT. `SetZN` in numbers, a write read back at its own address, and the cost and the meaning of an Implied
instruction; then the loads, stores and transfers (41_load_store_transfer.md R120 to R131): O38, O39 and O40.
-/
namespace Sys2Proof.Machine

@[simp] theorem resolve_a (i : Instr) (s : State) : (resolve i s).1.a = s.a := by rw [resolve_frame]
@[simp] theorem resolve_x (i : Instr) (s : State) : (resolve i s).1.x = s.x := by rw [resolve_frame]
@[simp] theorem resolve_y (i : Instr) (s : State) : (resolve i s).1.y = s.y := by rw [resolve_frame]

/-! ### Loads -/

/-- `SetZN` compares its value with 0 and with 128 (10_state.md R22). -/
theorem setZN_eq (v : Byte) (s : State) :
    setZN v s = { s with flagZ := decide (v.toNat = 0), flagN := decide (128 ≤ v.toNat) } := by
  rw [setZN, beq_zero, bitOf_seven]

/-- Settles O38: the Execute slot of a load copies the latch that its resolver left and ends in `SetZN`. -/
theorem loadsCopyTheOperand : Obligations.LoadsCopyTheOperand := by
  refine ⟨fun i s => ⟨fun h => ?_, fun h => ?_, fun h => ?_⟩, by decide +kernel⟩
  · simp only [exec_eq_next, bodyOf, h, ldaBody, eligible, setZN_eq]
  · simp only [exec_eq_next, bodyOf, h, ldxBody, eligible, setZN_eq]
  · simp only [exec_eq_next, bodyOf, h, ldyBody, eligible, setZN_eq]

/-! ### Stores -/

/-- Where the bus holds a byte, a write is read back at its own address (20_memory.md R45). -/
theorem peek_memWrite_same {s : State} {p : Word} (v : Byte) (h : (peek s p).isSome) :
    peek (memWrite p v s) p = some v := by
  rw [peek, Option.isSome_map] at h
  rw [peek_after_memWrite, if_pos ⟨h, rfl⟩]

/-- An Execute slot that is one write of `v` at the effective address leaves `v` there, as the bus stood before the
step. -/
theorem exec_of_body_memWrite {i : Instr} {s : State} {v : Byte}
    (h : (bodyOf i (resolve i s).1).state = memWrite (resolve i s).1.effectiveAddress v (resolve i s).1) :
    let r := (resolve i s).1
    exec i s = .next (retire (costOf i s) (memWrite r.effectiveAddress v r)) ∧
      ((peek s r.effectiveAddress).isSome → peek (memWrite r.effectiveAddress v r) r.effectiveAddress = some v) := by
  refine ⟨by rw [exec_eq_next, h], fun hheld => peek_memWrite_same v ?_⟩
  rwa [peek_resolve]

/-- Settles O39: the Execute slot of a store is one write of its register, which the resolver leaves as it was. -/
theorem storesWriteTheRegister : Obligations.StoresWriteTheRegister := by
  refine ⟨fun i s => ⟨fun h => ?_, fun h => ?_, fun h => ?_⟩, by decide +kernel⟩
  all_goals apply exec_of_body_memWrite
  · simp only [bodyOf, h, staBody, plain, resolve_a]
  · simp only [bodyOf, h, stxBody, plain, resolve_x]
  · simp only [bodyOf, h, styBody, plain, resolve_y]

/-! ### Transfers -/

/-- An Implied instruction crosses no page and takes no branch, so it costs its base count (40_step_and_addressing.md
R93). -/
theorem costOf_of_imp {i : Instr} (h : i.mode = .imp) (s : State) : costOf i s = baseCyclesOf i := by
  obtain hbase | ⟨-, hcross, -⟩ | ⟨hbranch, -⟩ := costOf_cases i s
  · exact hbase
  · simp [h] at hcross
  · simp [mode_of_branchCondition hbranch] at h

/-- Its Execute slot runs with `data_latch = a` (40_step_and_addressing.md R96). -/
theorem exec_of_imp {i : Instr} (h : i.mode = .imp) (s : State) :
    exec i s = .next (retire (baseCyclesOf i) (bodyOf i { s with dataLatch := s.a }).state) := by
  rw [exec_eq_next, costOf_of_imp h, resolve_of_mode h]
  rfl

/-- Settles O40: each transfer is Implied with a base count of 2; the Execute slots of all but `TXS` end in `SetZN`. -/
theorem transfersMoveOneRegister : Obligations.TransfersMoveOneRegister := by
  intro s
  refine ⟨?tax, ?tay, ?tsx, ?txa, ?tya, exec_of_imp rfl s, rfl, rfl, rfl, rfl, rfl, rfl⟩
  all_goals
    rw [exec_of_imp rfl]
    simp only [bodyOf, Instr.mnemonic, taxBody, tayBody, tsxBody, txaBody, tyaBody, plain, setZN_eq]
    rfl

end Sys2Proof.Machine
end

section
/-!
SUPPORT. The nine-bit adder, the nine-bit difference and `V` in numbers, and from them `ADC` and `SBC` unsigned and
signed, the bitwise instructions, `BIT` and the compares (42_alu_logic_compare.md R140 to R150): O41 to O45.
-/
namespace Sys2Proof.Machine

/-! ### Nine-bit values -/

theorem low8_eq_ofNat (v : BitVec 9) : low8 v = BitVec.ofNat 8 v.toNat := rfl

@[simp] theorem zext9_toNat (b : Byte) : (zext9 b).toNat = b.toNat := BitVec.toNat_setWidth_of_le (by decide)

/-- Nine bits hold every sum of two bytes and a carry. -/
@[simp] theorem sum9_toNat (a m : Byte) (c : Bool) : (sum9 a m c).toNat = a.toNat + m.toNat + c.toNat := by
  have hcarry : (carry9 c).toNat = c.toNat := by cases c <;> rfl
  have hc := c.toNat_le
  rw [sum9, BitVec.toNat_add, BitVec.toNat_add, zext9_toNat, zext9_toNat, hcarry]
  omega

theorem low8_diff9_toNat (reg data : Byte) : (low8 (diff9 reg data)).toNat = (reg.toNat + 256 - data.toNat) % 256 := by
  rw [low8_eq_ofNat, BitVec.toNat_ofNat, diff9, BitVec.toNat_sub, zext9_toNat, zext9_toNat]
  omega

/-! ### Additions and subtractions (R140, R141) -/

/-- Bit 7, the sign, is the comparison with 128 (10_state.md R23). -/
theorem overflow_eq_decide (a m r : Byte) : overflow a m r =
    decide ((128 ≤ a.toNat ↔ 128 ≤ m.toNat) ∧ ¬ (128 ≤ r.toNat ↔ 128 ≤ a.toNat)) := by
  rw [Bool.eq_iff_iff]
  simp only [overflow, bitOf_seven, Bool.and_eq_true, beq_iff_eq, bne_iff_ne, ne_eq, decide_eq_decide,
    decide_eq_true_eq]

/-- The shared adder adds unsigned numbers. -/
theorem addToA_eq (m : Byte) (s : State) :
    addToA m s = let sum := s.a.toNat + m.toNat + s.flagC.toNat
      { s with
        a := BitVec.ofNat 8 sum, flagC := decide (256 ≤ sum), flagZ := decide (sum % 256 = 0),
        flagN := decide (128 ≤ sum % 256),
        flagV := decide ((128 ≤ s.a.toNat ↔ 128 ≤ m.toNat) ∧ ¬ (128 ≤ sum % 256 ↔ 128 ≤ s.a.toNat)) } := by
  have hcarry : (sum9 s.a m s.flagC).getLsbD 8 = decide (256 ≤ s.a.toNat + m.toNat + s.flagC.toNat) := by
    rw [← sum9_toNat]
    exact (BitVec.msb_eq_getLsbD_last _).symm.trans (BitVec.msb_eq_decide _)
  rw [addToA, setZN_eq, overflow_eq_decide, hcarry, low8_eq_ofNat, BitVec.toNat_ofNat, sum9_toNat]

theorem complement_toNat (m : Byte) : (m ^^^ 0xFF#8).toNat = 255 - m.toNat := by
  rw [show m ^^^ 0xFF#8 = ~~~m from BitVec.xor_allOnes, BitVec.toNat_not]

/-- On the complement it subtracts the operand and the borrow. -/
theorem addToA_complement_eq (m : Byte) (s : State) :
    addToA (m ^^^ 0xFF#8) s = let take := m.toNat + (1 - s.flagC.toNat); let diff := (s.a.toNat + 256 - take) % 256
      { s with
        a := BitVec.ofNat 8 diff, flagC := decide (take ≤ s.a.toNat), flagZ := decide (diff = 0),
        flagN := decide (128 ≤ diff),
        flagV := decide (¬ (128 ≤ s.a.toNat ↔ 128 ≤ m.toNat) ∧ (128 ≤ diff ↔ 128 ≤ m.toNat)) } := by
  have hc := s.flagC.toNat_le
  have hsum : s.a.toNat + (255 - m.toNat) + s.flagC.toNat = s.a.toNat + 256 - (m.toNat + (1 - s.flagC.toNat)) := by
    omega
  rw [addToA_eq, complement_toNat, hsum]
  simp only [State.mk.injEq, decide_eq_decide, true_and, and_true, ← BitVec.toNat_inj, BitVec.toNat_ofNat]
  omega

/-- Settles O41: the resolver keeps `a` and `C`, so the shared adder adds those of the state before the step. -/
theorem adcAddsWithCarry : Obligations.AdcAddsWithCarry := by
  refine ⟨fun i s h => ?_, by decide +kernel⟩
  simp only [exec_eq_next, bodyOf, h, adcBody, eligible, addToA_eq, resolve_a, resolve_flagC]

/-- Settles O42: the shared adder, on the complement of the operand. -/
theorem sbcSubtractsWithBorrow : Obligations.SbcSubtractsWithBorrow := by
  refine ⟨fun i s h => ?_, by decide +kernel⟩
  simp only [exec_eq_next, bodyOf, h, sbcBody, eligible, addToA_complement_eq, resolve_a, resolve_flagC]

/-! ### Overflow of the signed result (R149, R150) -/

/-- `V` is set exactly if a signed byte cannot hold the exact result, and otherwise `a` holds it. -/
def SignedResult (exact : Int) (t : State) : Prop :=
  t.flagV = decide (exact < -128 ∨ 127 < exact) ∧ (t.flagV = false → t.a.toInt = exact)

/-- The shared adder adds signed numbers. -/
theorem addToA_signedResult (m : Byte) (s : State) :
    SignedResult (s.a.toInt + m.toInt + s.flagC.toNat) (addToA m s) := by
  have hc := s.flagC.toNat_le
  rw [addToA_eq]
  simp only [SignedResult, decide_eq_decide, decide_eq_false_iff_not, BitVec.toInt_eq_toNat_cond, BitVec.toNat_ofNat]
  omega

/-- In two's complement the bitwise complement is minus the operand, minus one. -/
theorem complement_toInt (m : Byte) : (m ^^^ 0xFF#8).toInt = -m.toInt - 1 := by
  rw [BitVec.toInt_eq_toNat_cond, BitVec.toInt_eq_toNat_cond, complement_toNat]
  omega

/-- On the complement it subtracts the operand and the borrow. -/
theorem addToA_complement_signedResult (m : Byte) (s : State) :
    SignedResult (s.a.toInt - m.toInt - (1 - s.flagC.toNat)) (addToA (m ^^^ 0xFF#8) s) := by
  have hexact : s.a.toInt - m.toInt - (1 - s.flagC.toNat) = s.a.toInt + (m ^^^ 0xFF#8).toInt + s.flagC.toNat := by
    rw [complement_toInt]
    ring
  rw [hexact]
  exact addToA_signedResult _ s

/-- Settles O43: the Execute slots are the shared adder, on the operand and on its complement. -/
theorem overflowIsSignedOutOfRange : Obligations.OverflowIsSignedOutOfRange := by
  refine fun i s => ⟨fun h => ⟨_, exec_eq_next i s, ?_⟩, fun h => ⟨_, exec_eq_next i s, ?_⟩⟩
  all_goals simp only [bodyOf, h]
  · have hsum := addToA_signedResult (resolve i s).1.dataLatch (resolve i s).1
    rwa [resolve_a, resolve_flagC] at hsum
  · have hdiff := addToA_complement_signedResult (resolve i s).1.dataLatch (resolve i s).1
    rwa [resolve_a, resolve_flagC] at hdiff

/-! ### Bitwise instructions and `BIT` (R142 to R145) -/

theorem bitOf_six (v : Byte) : bitOf v 6 = decide (64 ≤ v.toNat % 128) := by revert v; decide +kernel

/-- Settles O44: bit 7 of a bitwise result is that operation on the two bits 7, and the result is zero where the two
operands say so. -/
theorem logicAndBitTest : Obligations.LogicAndBitTest := by
  refine ⟨⟨fun i s => ⟨fun h => ?_, fun h => ?_, fun h => ?_⟩, by decide +kernel⟩, fun i s h => ?_, by decide +kernel⟩
  · simp only [exec_eq_next, bodyOf, h, andBody, eligible, resolve_a, setZN, bitOf, BitVec.getLsbD_and, beq_eq_decide]
  · simp only [exec_eq_next, bodyOf, h, oraBody, eligible, resolve_a, setZN, bitOf, BitVec.getLsbD_or, beq_eq_decide,
      BitVec.or_eq_zero_iff]
  · simp only [exec_eq_next, bodyOf, h, eorBody, eligible, resolve_a, setZN, bitOf, BitVec.getLsbD_xor, beq_eq_decide,
      BitVec.xor_eq_zero_iff]
  · simp only [exec_eq_next, bodyOf, h, bitBody, plain, resolve_a, bitOf_seven, bitOf_six, beq_eq_decide]

/-! ### Compares (R146 to R148) -/

/-- A compare is the comparison of two numbers and the sign of their difference. -/
theorem compareWith_eq (reg data : Byte) (s : State) :
    compareWith reg data s = { s with
      flagC := decide (data.toNat ≤ reg.toNat), flagZ := decide (reg.toNat = data.toNat),
      flagN := decide (128 ≤ (reg.toNat + 256 - data.toNat) % 256) } := by
  have hzero : (reg.toNat + 256 - data.toNat) % 256 = 0 ↔ reg.toNat = data.toNat := by omega
  simp only [compareWith, setZN_eq, low8_diff9_toNat, hzero]

/-- Settles O45: the Execute slot of a compare is the shared one, on a register that the resolver keeps. -/
theorem comparesSubtractWithoutStoring : Obligations.ComparesSubtractWithoutStoring := by
  refine ⟨fun i s => ⟨fun h => ?_, fun h => ?_, fun h => ?_⟩, by decide +kernel⟩
  · simp only [exec_eq_next, bodyOf, h, cmpBody, eligible, compareWith_eq, resolve_a]
  · simp only [exec_eq_next, bodyOf, h, cpxBody, plain, compareWith_eq, resolve_x]
  · simp only [exec_eq_next, bodyOf, h, cpyBody, plain, compareWith_eq, resolve_y]

end Sys2Proof.Machine
end

section
/-!
SUPPORT. The shifts and rotates in numbers, `C` and `a` as one nine-bit value that a rotate turns by one place, and the
counting by one of `INC`, `DEC` and the index registers (43_shift_incdec.md R160 to R171): O46 to O49.
-/
namespace Sys2Proof.Machine

/-! ### Shifts and rotates (R160 to R164) -/

theorem setZN_ofNat (n : Nat) (s : State) : setZN (BitVec.ofNat 8 n) s = { s with
    flagZ := decide (n % 256 = 0), flagN := decide (128 ≤ n % 256) } := by
  rw [setZN_eq, BitVec.toNat_ofNat]

/-- A shift to the left is a rotate into which 0 enters. -/
theorem aslBody_eq_rolBody (mode : Mode) (s : State) : aslBody mode s = rolBody mode { s with flagC := false } := by
  simp only [aslBody, rolBody, carry9, Bool.false_eq_true, if_false, BitVec.or_zero]

/-- So is a shift to the right. -/
theorem lsrBody_eq_rorBody (mode : Mode) (s : State) : lsrBody mode s = rorBody mode { s with flagC := false } := by
  have hzero : (BitVec.ofBool false).setWidth 8 <<< 7 = 0#8 := rfl
  simp only [lsrBody, rorBody, hzero, BitVec.zero_or]

/-- Nine bits hold the operand one place further left, with the old carry below it. -/
theorem rotateLeft9_toNat (m : Byte) (c : Bool) : (zext9 m <<< 1 ||| carry9 c).toNat = 2 * m.toNat + c.toNat := by
  have hcarry : (carry9 c).toNat = c.toNat := by cases c <;> rfl
  have hshift : (zext9 m <<< 1).toNat = m.toNat <<< 1 := by
    rw [BitVec.toNat_shiftLeft, zext9_toNat, Nat.shiftLeft_eq]
    omega
  rw [BitVec.toNat_or, hshift, hcarry, ← Nat.shiftLeft_add_eq_or_of_lt c.toNat_lt, Nat.shiftLeft_eq]
  omega

/-- Bit 8 of a nine-bit value, as a comparison. -/
theorem getLsbD_eight (v : BitVec 9) : v.getLsbD 8 = decide (256 ≤ v.toNat) :=
  (BitVec.msb_eq_getLsbD_last _).symm.trans (BitVec.msb_eq_decide _)

theorem rolBody_eq (mode : Mode) (s : State) :
    rolBody mode s = let m := s.dataLatch.toNat; let c := s.flagC.toNat
      plain (writeBack mode (BitVec.ofNat 8 (2 * m + c)) { s with
        flagC := decide (128 ≤ m), flagZ := decide (m % 128 = 0 ∧ c = 0), flagN := decide (64 ≤ m % 128) }) := by
  have hc := s.flagC.toNat_le
  have hcarry : 256 ≤ 2 * s.dataLatch.toNat + s.flagC.toNat ↔ 128 ≤ s.dataLatch.toNat := by omega
  have hzero : (2 * s.dataLatch.toNat + s.flagC.toNat) % 256 = 0 ↔
      s.dataLatch.toNat % 128 = 0 ∧ s.flagC.toNat = 0 := by omega
  have hsign : 128 ≤ (2 * s.dataLatch.toNat + s.flagC.toNat) % 256 ↔ 64 ≤ s.dataLatch.toNat % 128 := by omega
  simp only [rolBody, low8_eq_ofNat, getLsbD_eight, rotateLeft9_toNat, setZN_ofNat, hcarry, hzero, hsign]

/-- The operand one place further right, with the old carry above it. -/
theorem rotateRight_eq_ofNat (m : Byte) (c : Bool) :
    (BitVec.ofBool c).setWidth 8 <<< 7 ||| m >>> 1 = BitVec.ofNat 8 (m.toNat / 2 + 128 * c.toNat) := by
  have hc := c.toNat_le
  have hlow : m.toNat >>> 1 < 2 ^ 7 := by rw [Nat.shiftRight_eq_div_pow]; omega
  have hcarry : ((BitVec.ofBool c).setWidth 8 <<< 7).toNat = c.toNat <<< 7 := by cases c <;> rfl
  apply BitVec.eq_of_toNat_eq
  rw [BitVec.toNat_or, hcarry, BitVec.toNat_ushiftRight, ← Nat.shiftLeft_add_eq_or_of_lt hlow, Nat.shiftLeft_eq,
    Nat.shiftRight_eq_div_pow, BitVec.toNat_ofNat]
  omega

theorem bitOf_zero (v : Byte) : bitOf v 0 = decide (v.toNat % 2 = 1) := by
  rw [bitOf, BitVec.getLsbD, Nat.testBit_zero]

theorem rorBody_eq (mode : Mode) (s : State) :
    rorBody mode s = let m := s.dataLatch.toNat; let c := s.flagC.toNat
      plain (writeBack mode (BitVec.ofNat 8 (m / 2 + 128 * c)) { s with
        flagC := decide (m % 2 = 1), flagZ := decide (m / 2 = 0 ∧ c = 0), flagN := s.flagC }) := by
  have hc := s.flagC.toNat_le
  have hzero : (s.dataLatch.toNat / 2 + 128 * s.flagC.toNat) % 256 = 0 ↔
      s.dataLatch.toNat / 2 = 0 ∧ s.flagC.toNat = 0 := by omega
  have hsign : 128 ≤ (s.dataLatch.toNat / 2 + 128 * s.flagC.toNat) % 256 ↔ s.flagC = true := by
    rw [← Bool.toNat_eq_one]
    omega
  simp only [rorBody, rotateRight_eq_ofNat, bitOf_zero, setZN_ofNat, hzero, hsign, Bool.decide_eq_true]

/-- For a shift or rotate, whose mode is never Implied, the spec's two ways of naming the destination agree. -/
theorem writeBack_eq_wroteBack {i : Instr} (h : i.mnemonic ∈ [.asl, .lsr, .rol, .ror]) (result : Byte) (s : State) :
    writeBack i.mode result s = wroteBack i result s := by
  obtain hacc | hmem := mode_of_shift h
  · simp [writeBack, wroteBack, hacc]
  · rw [writeBack_eq_memWrite hmem, wroteBack, if_neg]
    intro hacc
    simp [hacc, latchesAddress] at hmem

/-- Settles O46: the Execute slots of the two rotates in numbers; a shift is a rotate with the carry clear. -/
theorem shiftsMoveOneBitThroughCarry : Obligations.ShiftsMoveOneBitThroughCarry := by
  refine ⟨fun i s => ⟨fun h => ?_, fun h => ?_, fun h => ?_, fun h => ?_⟩, by decide +kernel⟩
  all_goals
    have hback := writeBack_eq_wroteBack (i := i) (by simp [h])
    simp only [exec_eq_next, bodyOf, h]
  · simp only [aslBody_eq_rolBody, rolBody_eq, hback, plain_state, Bool.toNat_false, Nat.add_zero, and_true]
  · simp only [lsrBody_eq_rorBody, rorBody_eq, hback, plain_state, Bool.toNat_false, Nat.mul_zero, Nat.add_zero,
      and_true]
  · simp only [rolBody_eq, hback, plain_state, resolve_flagC]
  · simp only [rorBody_eq, hback, plain_state, resolve_flagC]

/-! ### Nine rotates (R171) -/

/-- `C` above `a`: the nine bits that the accumulator rotates turn. -/
def carryAndA (s : State) : BitVec 9 := BitVec.cons s.flagC s.a

theorem carryAndA_inj {s t : State} : carryAndA t = carryAndA s ↔ t.a = s.a ∧ t.flagC = s.flagC := by
  refine ⟨fun h => ⟨?_, ?_⟩, fun ⟨ha, hc⟩ => by rw [carryAndA, ha, hc, carryAndA]⟩
  · simpa only [carryAndA, BitVec.setWidth_cons] using congrArg (BitVec.setWidth 8) h
  · simpa only [carryAndA, BitVec.msb_cons] using congrArg BitVec.msb h

/-- The bit that leaves `a` on the left, above the number that `ROL` makes: the nine bits, turned. -/
theorem cons_rol (c : Bool) (a : Byte) :
    BitVec.cons (decide (128 ≤ a.toNat)) (BitVec.ofNat 8 (2 * a.toNat + c.toNat)) =
      (BitVec.cons c a).rotateLeft 1 := by
  revert c a; decide +kernel

/-- The bit that leaves `a` on the right, above the number that `ROR` makes. -/
theorem cons_ror (c : Bool) (a : Byte) :
    BitVec.cons (decide (a.toNat % 2 = 1)) (BitVec.ofNat 8 (a.toNat / 2 + 128 * c.toNat)) =
      (BitVec.cons c a).rotateRight 1 := by
  revert c a; decide +kernel

/-- An instruction completes from every state and acts on the nine bits as `turn`. -/
def TurnsCarryAndA (i : Instr) (turn : BitVec 9 → BitVec 9) : Prop :=
  ∀ s, ∃ t, exec i s = .next t ∧ carryAndA t = turn (carryAndA s)

theorem rolAcc_turns : TurnsCarryAndA .rolAcc (·.rotateLeft 1) := by
  intro s
  obtain ⟨-, -, hrol, -⟩ := shiftsMoveOneBitThroughCarry.1 .rolAcc s
  exact ⟨_, hrol rfl, cons_rol s.flagC s.a⟩

theorem rorAcc_turns : TurnsCarryAndA .rorAcc (·.rotateRight 1) := by
  intro s
  obtain ⟨-, -, -, hror⟩ := shiftsMoveOneBitThroughCarry.1 .rorAcc s
  exact ⟨_, hror rfl, cons_ror s.flagC s.a⟩

/-- Repeating the instruction repeats the turn. -/
theorem TurnsCarryAndA.execAll_replicate {i : Instr} {turn : BitVec 9 → BitVec 9} (h : TurnsCarryAndA i turn)
    (n : Nat) (s : State) :
    ∃ t, execAll (List.replicate n i) s = .next t ∧ carryAndA t = turn^[n] (carryAndA s) := by
  induction n generalizing s with
  | zero => exact ⟨s, rfl, rfl⟩
  | succ n ih =>
    obtain ⟨u, hu, hfirst⟩ := h s
    obtain ⟨t, ht, hrest⟩ := ih u
    refine ⟨t, ?_, ?_⟩
    · rw [List.replicate_succ, execAll, hu]
      exact ht
    · rw [hrest, hfirst, Function.iterate_succ_apply]

/-- Where nine turns are the identity and eight move the lowest bit, nine of the instruction restore `a` and `C`, and
eight need not. -/
theorem TurnsCarryAndA.nine_restore {i : Instr} {turn : BitVec 9 → BitVec 9} (h : TurnsCarryAndA i turn)
    (hnine : ∀ v, turn^[9] v = v) (hmoves : (turn^[8] 1#9).setWidth 8 ≠ 1#8) :
    (∀ s : State, ∃ t, execAll (List.replicate 9 i) s = .next t ∧ t.a = s.a ∧ t.flagC = s.flagC) ∧
      ∃ s t, execAll (List.replicate 8 i) s = .next t ∧ t.a ≠ s.a := by
  refine ⟨fun s => ?_, ?_⟩
  · obtain ⟨t, ht, hturn⟩ := h.execAll_replicate 9 s
    exact ⟨t, ht, carryAndA_inj.mp (hturn.trans (hnine _))⟩
  · obtain ⟨t, ht, hturn⟩ := h.execAll_replicate 8 { State.reset with a := 0x01#8 }
    refine ⟨_, t, ht, fun ha => hmoves ?_⟩
    have hstart : carryAndA { State.reset with a := 0x01#8 } = 1#9 := rfl
    rw [← hstart, ← hturn, carryAndA, BitVec.setWidth_cons, ha]

/-- Settles O47: a rotate turns nine bits by one place, so the ninth brings each back. -/
theorem nineRotatesRestore : Obligations.NineRotatesRestore := by
  intro i hi
  obtain rfl | rfl : i = .rolAcc ∨ i = .rorAcc := by simpa using hi
  · exact rolAcc_turns.nine_restore (by decide +kernel) (by decide +kernel)
  · exact rorAcc_turns.nine_restore (by decide +kernel) (by decide +kernel)

/-! ### Counting by one (R165 to R170) -/

theorem add_one_eq_ofNat (v : Byte) : v + 1#8 = BitVec.ofNat 8 (v.toNat + 1) := by
  rw [BitVec.ofNat_add, BitVec.ofNat_toNat, BitVec.setWidth_eq]

/-- Modulo 256, minus one is plus 255. -/
theorem sub_one_eq_ofNat (v : Byte) : v - 1#8 = BitVec.ofNat 8 (v.toNat + 255) := by
  rw [BitVec.ofNat_add, BitVec.ofNat_toNat, BitVec.setWidth_eq]
  exact BitVec.sub_eq_add_neg v 1#8

theorem setZN_ofNat_add_one (v : Byte) (s : State) : setZN (BitVec.ofNat 8 (v.toNat + 1)) s = { s with
    flagZ := decide (v.toNat = 255), flagN := decide (127 ≤ v.toNat ∧ v.toNat ≠ 255) } := by
  have hzero : (v.toNat + 1) % 256 = 0 ↔ v.toNat = 255 := by omega
  have hsign : 128 ≤ (v.toNat + 1) % 256 ↔ 127 ≤ v.toNat ∧ v.toNat ≠ 255 := by omega
  simp only [setZN_ofNat, hzero, hsign]

theorem setZN_ofNat_add_255 (v : Byte) (s : State) : setZN (BitVec.ofNat 8 (v.toNat + 255)) s = { s with
    flagZ := decide (v.toNat = 1), flagN := decide (129 ≤ v.toNat ∨ v.toNat = 0) } := by
  have hzero : (v.toNat + 255) % 256 = 0 ↔ v.toNat = 1 := by omega
  have hsign : 128 ≤ (v.toNat + 255) % 256 ↔ 129 ≤ v.toNat ∨ v.toNat = 0 := by omega
  simp only [setZN_ofNat, hzero, hsign]

/-- Settles O48: the Execute slot counts the latch by one, ends in `SetZN` and writes the result once. -/
theorem memoryIncrementsByOne : Obligations.MemoryIncrementsByOne := by
  refine ⟨fun i s => ⟨fun h => ?_, fun h => ?_⟩, by decide +kernel⟩
  · simp only [exec_eq_next, bodyOf, h, incBody, plain, add_one_eq_ofNat, setZN_ofNat_add_one]
  · simp only [exec_eq_next, bodyOf, h, decBody, plain, sub_one_eq_ofNat, setZN_ofNat_add_255]

/-- Settles O49: each is Implied with a base count of 2, and its Execute slot counts its register and ends in
`SetZN`. -/
theorem indexRegistersCountByOne : Obligations.IndexRegistersCountByOne := by
  intro s
  refine ⟨?inx, ?iny, ?dex, ?dey, rfl, rfl, rfl, rfl⟩
  all_goals rw [exec_of_imp rfl]
  case inx | iny =>
    simp only [bodyOf, Instr.mnemonic, inxBody, inyBody, plain, add_one_eq_ofNat, setZN_ofNat_add_one]
    rfl
  case dex | dey =>
    simp only [bodyOf, Instr.mnemonic, dexBody, deyBody, plain, sub_one_eq_ofNat, setZN_ofNat_add_255]
    rfl

end Sys2Proof.Machine
end

section
/-!
SUPPORT. What each control transfer leaves, as one equation in the state's fields (44_control_transfer.md R180 to R192):
O50 to O54.
-/
namespace Sys2Proof.Machine

/-! ### Branches (R180 to R188) -/

/-- The Execute slot of a mnemonic that has a condition is the common branch rule on that condition. -/
theorem bodyOf_of_branchCondition {i : Instr} {s : State} {cond : Bool}
    (h : branchCondition i.mnemonic s = some cond) : bodyOf i s = branchIf cond s := by
  obtain ⟨-, hnone, -⟩ | ⟨-, c, hc, hbody⟩ | ⟨-, hnone, -⟩ := bodyOf_cases i s
  · cases hnone.symm.trans h
  · rw [hbody, Option.some.inj (hc.symm.trans h)]
  · cases hnone.symm.trans h

/-- The high byte of an address is its page number. -/
theorem highByte_eq_iff (p q : Word) : highByte p = highByte q ↔ p.toNat / 256 = q.toNat / 256 := by
  rw [← BitVec.toNat_inj, highByte_toNat, highByte_toNat]

/-- What a branch leaves, and its cost: a relative branch has a base count of 2, and its resolver reports no crossing. -/
theorem exec_of_branchCondition {i : Instr} {s : State} {cond : Bool} (h : branchCondition i.mnemonic s = some cond) :
    exec i s = let r := (resolve i s).1
      .next (if cond then
        retire (if r.effectiveAddress.toNat / 256 = s.pc.toNat / 256 then 3 else 4) { r with pc := r.effectiveAddress }
      else retire 2 r) := by
  have hmode := mode_of_branchCondition h
  have hbase : baseCyclesOf i = 2 := (baseCyclesOf_bounds i).2.2 hmode
  have hcross : (resolve i s).2 = false := by rw [resolve_of_mode hmode]; rfl
  rw [← branchCondition_resolve _ i] at h
  rw [exec_eq_complete, complete_eq, hbase, hcross, bodyOf_of_branchCondition h]
  cases cond with
  | false => rfl
  | true =>
    simp only [branchIf, if_true, highByte_eq_iff, resolve_pc]
    split <;> rfl

/-- The target is the signed displacement from the next instruction (40_step_and_addressing.md R108). -/
theorem effectiveAddress_of_branchCondition {i : Instr} {s : State} {cond : Bool}
    (h : branchCondition i.mnemonic s = some cond) :
    (resolve i s).1.effectiveAddress = s.pc + BitVec.ofInt 16 i.operand.asByte.toInt := by
  rw [resolve_of_mode (mode_of_branchCondition h)]
  rfl

/-- Where a branch on `flag` goes. -/
theorem exec_pc_of_branch_on {i : Instr} {s : State} {flag : Bool} (h : branchCondition i.mnemonic s = some flag) :
    ∃ t, exec i s = .next t ∧ t.pc = if flag then s.pc + BitVec.ofInt 16 i.operand.asByte.toInt else s.pc := by
  refine ⟨_, exec_of_branchCondition h, ?_⟩
  cases flag with
  | false => exact resolve_pc i s
  | true => exact effectiveAddress_of_branchCondition h

/-- Where a branch on `flag` being clear goes. -/
theorem exec_pc_of_branch_on_not {i : Instr} {s : State} {flag : Bool}
    (h : branchCondition i.mnemonic s = some (!flag)) :
    ∃ t, exec i s = .next t ∧ t.pc = if flag then s.pc else s.pc + BitVec.ofInt 16 i.operand.asByte.toInt := by
  obtain ⟨t, ht, hpc⟩ := exec_pc_of_branch_on h
  refine ⟨t, ht, hpc.trans ?_⟩
  cases flag <;> rfl

/-- Settles O50: the common branch rule, and the flag that each of the eight mnemonics tests set or clear. -/
theorem branchesFollowTheirCondition : Obligations.BranchesFollowTheirCondition := by
  refine ⟨fun i s cond h => ⟨effectiveAddress_of_branchCondition h, ?_⟩, fun s d => ⟨?bcc, ?bcs, ?beq, ?bne, ?bmi, ?bpl,
    ?bvc, ?bvs, rfl, rfl, rfl, rfl, rfl, rfl, rfl, rfl⟩⟩
  · rw [← effectiveAddress_of_branchCondition h]
    exact exec_of_branchCondition h
  case bcs | beq | bmi | bvs => exact exec_pc_of_branch_on rfl
  case bcc | bne | bpl | bvc => exact exec_pc_of_branch_on_not rfl

/-! ### Jump (R189) -/

/-- Settles O51: `JMP` has two forms, each the resolver of its mode and the one Execute slot. -/
theorem jumpLoadsPc : Obligations.JumpLoadsPc := by
  refine ⟨fun i s h => ?_, fun target => ⟨rfl, rfl⟩⟩
  cases i with
  | jmpAbs | jmpInd => exact exec_eq_complete _ s
  | _ => cases h

/-! ### Subroutine call (R190) -/

/-- Everything `JSR` does: its resolver's unused read of the target, then two pushes. -/
theorem exec_jsr_eq (target : Word) (s : State) : exec (.jsr target) s = let latched := latchFrom target s
    .next (retire 6 { s with
      dataLatch := latched.dataLatch, effectiveAddress := target, draws := latched.draws
      pc := target, sp := s.sp - 2#8
      mem := Memory.write (Memory.write s.mem (256 + s.sp.toNat) (highByte (s.pc - 1#16)))
        (256 + (s.sp - 1#8).toNat) (lowByte (s.pc - 1#16))
      busLog := .write (stackAddr (s.sp - 1#8)) (lowByte (s.pc - 1#16)) ::
        .write (stackAddr s.sp) (highByte (s.pc - 1#16)) :: .read target latched.dataLatch :: s.busLog }) := by
  calc exec (.jsr target) s
    _ = .next (retire 6 (jsrBody (latchFrom target s)).state) := exec_eq_complete _ s
    _ = _ := by
      simp only [jsrBody, plain_state, push_eq, BitVec.sub_sub]
      rw [latchFrom_frame, latchFrom_busLog, latchFrom_effectiveAddress]
      rfl

/-- Settles O52: the second push goes to another slot, so both bytes stand on the stack afterwards. -/
theorem jsrStacksItsLastByte : Obligations.JsrStacksItsLastByte := by
  intro target s
  have hslots : 256 + s.sp.toNat ≠ 256 + (s.sp - 1#8).toNat := by bv_omega
  refine ⟨_, exec_jsr_eq target s, rfl, rfl, ?high, ?low, rfl, rfl, rfl, rfl, rfl,
    ⟨(latchFrom target s).dataLatch, ?log⟩, rfl⟩
  case high =>
    rw [peek_stackSlot, retire_mem, Memory.read_write_ne _ _ hslots, Memory.read_write_same]
  case low =>
    rw [peek_stackSlot, retire_mem, Memory.read_write_same]
  case log =>
    rw [stackSlot_eq_stackAddr, stackSlot_eq_stackAddr]
    rfl

/-! ### Subroutine return (R191, R192) -/

/-- Everything `RTS` does. -/
theorem exec_rts_eq (s : State) : exec .rts s =
    let lo := Memory.read s.mem (256 + (s.sp + 1#8).toNat); let hi := Memory.read s.mem (256 + (s.sp + 2#8).toNat)
    .next (retire 6 { s with
      dataLatch := s.a, pc := joinBytes hi lo + 1#16, sp := s.sp + 2#8
      busLog := .read (stackAddr (s.sp + 2#8)) hi :: .read (stackAddr (s.sp + 1#8)) lo :: s.busLog }) := by
  have hsp : s.sp + 1#8 + 1#8 = s.sp + 2#8 := BitVec.add_assoc ..
  rw [exec_of_imp rfl]
  simp only [bodyOf, Instr.mnemonic, rtsBody, plain_state, pop_eq, hsp]
  rfl

/-- Settles O53: both slots are RAM, so what is popped is what the bus holds there. -/
theorem rtsReturnsPastThePoppedAddress : Obligations.RtsReturnsPastThePoppedAddress := by
  intro s
  refine ⟨_, _, _, exec_rts_eq s, peek_stackSlot s _, peek_stackSlot s _, ?pc, rfl, rfl, rfl, rfl, rfl, rfl, rfl, ?log,
    rfl⟩
  case pc =>
    rw [retire_pc, BitVec.toNat_add, joinBytes_toNat]
    rfl
  case log =>
    rw [stackSlot_eq_stackAddr, stackSlot_eq_stackAddr]
    rfl

/-- Settles O54: `RTS` pops the two bytes that `JSR` stacked, the address of its last byte, and adds one. -/
theorem jsrThenRtsReturns : Obligations.JsrThenRtsReturns := by
  intro target s
  obtain ⟨t, ht, -, htsp, hhigh, hlow, htcycles, hta, htx, hty, htp, -⟩ := jsrStacksItsLastByte target s
  obtain ⟨u, lo, hi, hu, hlo, hhi, hpc, husp, hucycles, -, hua, hux, huy, hup, -⟩ := rtsReturnsPastThePoppedAddress t
  have hslotLow : t.sp + 1#8 = s.sp - 1#8 := by bv_omega
  have hslotHigh : t.sp + 2#8 = s.sp := by rw [htsp, BitVec.sub_add_cancel]
  rw [hslotLow, hlow, Option.some.injEq] at hlo
  rw [hslotHigh, hhigh, Option.some.injEq] at hhi
  refine ⟨u, ?run, ?pc, husp.trans hslotHigh, hua.trans hta, hux.trans htx, huy.trans hty, hup.trans htp, ?cycles⟩
  case run => simp only [execAll, ht, hu]
  case pc =>
    apply BitVec.eq_of_toNat_eq
    rw [hpc, ← hlo, ← hhi, ← joinBytes_toNat, joinBytes_highByte_lowByte]
    bv_omega
  case cycles => rw [hucycles, htcycles]

end Sys2Proof.Machine
end

section
/-!
SUPPORT. The stack operations in numbers, and what each stack, flag and system instruction leaves
(45_stack_flags_system.md R200 to R215): O55 to O59.
-/
namespace Sys2Proof.Machine

/-! ### The stack (R200, R201) -/

/-- The addresses that name a stack slot's byte: its own and its three mirrors (20_memory.md R44, R48). -/
theorem sameByte_stackAddr {high : HighRegion} {sp : Byte} {q : Word} :
    SameByte high (stackAddr sp) q ↔ q.toNat < 0x2000 ∧ q.toNat % 2048 = 256 + sp.toNat := by
  have hsp := sp.isLt
  rw [SameByte, cellOf_stackAddr]
  by_cases hq : q.toNat < 0x2000
  · simp [cellOf_ram high hq, hq, eq_comm]
  · have hhigh := Nat.le_of_not_lt hq
    have hne : 256 + sp.toNat ≠ q.toNat := by omega
    cases high with
    | flatRam => simp [cellOf_flatRam hhigh, hq, hne]
    | openBus => simp [cellOf_openBus hhigh, hq]
    | device => simp [cellOf_device hhigh, hq]

/-- A push is seen at the names of its slot and nowhere else (R200). -/
theorem peek_after_push (v : Byte) (s : State) (q : Word) : peek (push v s) q =
    if q.toNat < 0x2000 ∧ q.toNat % 2048 = 256 + s.sp.toNat then some v else peek s q := by
  simp only [← sameByte_stackAddr (high := s.high)]
  exact peek_after_memWrite s (stackAddr s.sp) q v

theorem peek_push_slot (v : Byte) (s : State) : peek (push v s) (stackSlot s.sp) = some v := by
  rw [peek_stackSlot, push_eq, Memory.read_write_same]

/-- A pop answers the byte that its slot holds (R201). -/
theorem peek_pop_slot (s : State) : peek s (stackSlot (s.sp + 1#8)) = some (pop s).1 := by
  rw [peek_stackSlot, pop_eq]

/-- What is popped after a push is what was pushed, also where `sp` wraps. -/
theorem pop_push (v : Byte) (s : State) : (pop (push v s)).1 = v ∧ (pop (push v s)).2.sp = s.sp := by
  have hsp : (push v s).sp + 1#8 = s.sp := by rw [push_sp, BitVec.sub_add_cancel]
  refine ⟨pop_value ?_, by rw [pop_sp, hsp]⟩
  rw [hsp, ← stackSlot_eq_stackAddr, peek_push_slot]

/-- Settles O55: a slot has one cell of RAM, which the push writes and the pop reads. -/
theorem stackIsEmptyDescending : Obligations.StackIsEmptyDescending := by
  intro s v q
  obtain ⟨hvalue, hsp⟩ := pop_push v s
  refine ⟨?down, peek_after_push v s q, ?pushLog, ?popState, ?popValue, hvalue, hsp⟩
  case down =>
    rw [push_sp, sub_one_eq_ofNat, BitVec.toNat_ofNat]
  case pushLog =>
    rw [stackSlot_eq_stackAddr, push_busLog]
  case popState =>
    rw [stackSlot_eq_stackAddr, ← add_one_eq_ofNat, pop_eq]
  case popValue =>
    rw [← peek_pop_slot, stackSlot, BitVec.toNat_add]
    rfl

/-! ### Push and pull (R202 to R205) -/

/-- What a step that pushes one byte leaves. -/
theorem retire_push_leaves (v : Byte) (s : State) : let t := retire 3 (push v { s with dataLatch := s.a })
    peek t (stackSlot s.sp) = some v ∧ t.sp = s.sp - 1#8 ∧ t.a = s.a ∧ packP t = packP s ∧
      t.cycles = s.cycles + 3 ∧ t.busLog = .write (stackSlot s.sp) v :: s.busLog := by
  refine ⟨(peek_retire ..).trans (peek_push_slot v { s with dataLatch := s.a }), ?_⟩
  rw [push_eq, stackSlot_eq_stackAddr]
  exact ⟨rfl, rfl, rfl, rfl, rfl⟩

/-- `PHA` stacks the accumulator and keeps it (R202). -/
theorem exec_pha_leaves (s : State) : ∃ t, exec .pha s = .next t ∧ peek t (stackSlot s.sp) = some s.a ∧
    t.sp = s.sp - 1#8 ∧ t.a = s.a ∧ packP t = packP s ∧ t.cycles = s.cycles + 3 ∧
    t.busLog = .write (stackSlot s.sp) s.a :: s.busLog :=
  ⟨_, exec_of_imp rfl s, retire_push_leaves s.a s⟩

/-- `PHP` stacks the status byte with bits 5 and 4 set, and keeps the flags themselves (R204). -/
theorem exec_php_leaves (s : State) : ∃ t, exec .php s = .next t ∧
    peek t (stackSlot s.sp) = some (packP s ||| 0x30#8) ∧ t.sp = s.sp - 1#8 ∧ packP t = packP s ∧
    t.cycles = s.cycles + 3 ∧ t.busLog = .write (stackSlot s.sp) (packP s ||| 0x30#8) :: s.busLog := by
  obtain ⟨hpeek, hsp, -, hp, hcycles, hlog⟩ := retire_push_leaves (packP s ||| 0x30#8) s
  exact ⟨_, exec_of_imp rfl s, hpeek, hsp, hp, hcycles, hlog⟩

/-- `PLA` reads the slot above `sp` into the accumulator and ends in `SetZN` (R203; log 15). -/
theorem exec_pla_leaves (s : State) : ∃ t, exec .pla s = .next t ∧ peek s (stackSlot (s.sp + 1#8)) = some t.a ∧
    t.sp = s.sp + 1#8 ∧ t.flagZ = decide (t.a.toNat = 0) ∧ t.flagN = decide (128 ≤ t.a.toNat) ∧ t.mem = s.mem ∧
    t.cycles = s.cycles + 4 ∧ t.busLog = .read (stackSlot (s.sp + 1#8)) t.a :: s.busLog := by
  refine ⟨_, exec_of_imp rfl s, ?_⟩
  simp only [bodyOf, Instr.mnemonic, plaBody, plain_state, setZN_eq, pop_eq]
  exact ⟨peek_stackSlot s _, rfl, rfl, rfl, rfl, rfl, by rw [stackSlot_eq_stackAddr]; rfl⟩

/-- `PLP` reads the slot above `sp` into the flags by `UnpackP` (R205). -/
theorem exec_plp_leaves (s : State) : ∃ t p, exec .plp s = .next t ∧ peek s (stackSlot (s.sp + 1#8)) = some p ∧
    t.sp = s.sp + 1#8 ∧ packP t = (p &&& 0xCF#8) ||| 0x20#8 ∧ t.flagB = false ∧ t.mem = s.mem ∧
    t.cycles = s.cycles + 4 ∧ t.busLog = .read (stackSlot (s.sp + 1#8)) p :: s.busLog := by
  refine ⟨_, _, exec_of_imp rfl s, peek_stackSlot s _, ?_⟩
  simp only [bodyOf, Instr.mnemonic, plpBody, plain_state, stackSlot_eq_stackAddr, pop_eq]
  exact ⟨rfl, packP_unpackP _ s, rfl, rfl, rfl, rfl⟩

/-- An immediate load of the accumulator leaves the stack alone (41_load_store_transfer.md R120). -/
theorem exec_ldaImm_keeps_stack (v : Byte) (s : State) : ∃ t, exec (.ldaImm v) s = .next t ∧ t.sp = s.sp ∧
    (∀ q, peek t q = peek s q) ∧ t.cycles = s.cycles + 2 :=
  ⟨_, exec_eq_complete (.ldaImm v) s, rfl, fun _ => rfl, rfl⟩

/-- Settles O56: `PLA` pops what `PHA` pushed, since a load between them leaves the stack alone. -/
theorem pushAndPull : Obligations.PushAndPull := by
  refine ⟨fun s => ⟨exec_pha_leaves s, exec_pla_leaves s, exec_php_leaves s, exec_plp_leaves s, rfl, rfl, rfl, rfl⟩,
    fun s v => ?_⟩
  obtain ⟨t, ht, hpushed, htsp, -, -, htcycles, -⟩ := exec_pha_leaves s
  obtain ⟨u, hu, husp, hupeek, hucycles⟩ := exec_ldaImm_keeps_stack v t
  obtain ⟨w, hw, hpopped, hwsp, hz, hn, -, hwcycles, -⟩ := exec_pla_leaves u
  have hslot : u.sp + 1#8 = s.sp := by rw [husp, htsp, BitVec.sub_add_cancel]
  rw [hslot, hupeek, hpushed, Option.some.injEq] at hpopped
  refine ⟨w, ?run, hpopped.symm, hwsp.trans hslot, hpopped ▸ hz, hpopped ▸ hn, ?cycles⟩
  case run => simp only [execAll, ht, hu, hw]
  case cycles => rw [hwcycles, hucycles, htcycles]

/-! ### Flags (R206 to R213) -/

/-- Settles O57: each is Implied with a base count of 2, and its Execute slot is one record update, or none. -/
theorem flagInstructionsWriteOneFlag : Obligations.FlagInstructionsWriteOneFlag := by
  intro s
  exact ⟨exec_of_imp rfl s, exec_of_imp rfl s, exec_of_imp rfl s, exec_of_imp rfl s, exec_of_imp rfl s,
    exec_of_imp rfl s, exec_of_imp rfl s, exec_of_imp rfl s, rfl, rfl, rfl, rfl, rfl, rfl, rfl, rfl⟩

/-! ### The trap (R214, R236) -/

/-- `BRK`'s vector lies above the stack page, so the pushes leave what the bus holds there. -/
theorem peek_afterBreakPushes_of_highRegion (s : State) {q : Word} (hq : 0x2000 ≤ q.toNat) :
    peek (afterBreakPushes s) q = peek s q := by
  have hslot (sp : Byte) : ¬ SameByte s.high (stackAddr sp) q := by
    rw [sameByte_stackAddr]
    omega
  calc peek (afterBreakPushes s) q
    _ = peek (enterBreak s) q := (peek_readPair ..).symm
    _ = peek s q := peek_enterBreak_of_not_sameByte (hslot _) (hslot _) (hslot _)

/-- `BRK` ends with two reads of its vector, low byte first, and goes on where their answers point. -/
theorem enterBreak_vector (s : State) : ∃ lo hi, (enterBreak s).pc = joinBytes hi lo ∧
    (enterBreak s).busLog = .read Config.brkVectorHigh hi :: .read Config.brkVectorLow lo ::
      (afterBreakPushes s).busLog ∧
    (∀ held, peek s Config.brkVectorLow = some held → lo = held) ∧
    (∀ held, peek s Config.brkVectorHigh = some held → hi = held) := by
  refine ⟨_, _, rfl, ?log, fun held h => ?lo, fun held h => ?hi⟩
  case log => exact (memRead_busLog _ _).trans (congrArg _ (memRead_busLog _ _))
  case lo =>
    rw [← peek_afterBreakPushes_of_highRegion s (by decide)] at h
    exact congrArg Prod.fst (memRead_held h)
  case hi =>
    rw [← peek_afterBreakPushes_of_highRegion s (by decide), ← peek_memRead Config.brkVectorLow] at h
    exact congrArg Prod.fst (memRead_held h)

/-- The three pushes of `BRK` go to three different slots, so each byte stands there afterwards. -/
theorem enterBreak_stacked (s : State) :
    peek (enterBreak s) (stackSlot s.sp) = some (highByte (s.pc + 1#16)) ∧
    peek (enterBreak s) (stackSlot (s.sp - 1#8)) = some (lowByte (s.pc + 1#16)) ∧
    peek (enterBreak s) (stackSlot (s.sp - 2#8)) = some (packP { s with flagI := true, flagB := true }) := by
  have hone : 256 + s.sp.toNat ≠ 256 + (s.sp - 1#8).toNat := by bv_omega
  have htwo : 256 + s.sp.toNat ≠ 256 + (s.sp - 2#8).toNat := by bv_omega
  have hthree : 256 + (s.sp - 1#8).toNat ≠ 256 + (s.sp - 2#8).toNat := by bv_omega
  simp only [peek_stackSlot, enterBreak_mem]
  rw [Memory.read_write_ne _ _ htwo, Memory.read_write_ne _ _ hone, Memory.read_write_ne _ _ hthree]
  simp only [Memory.read_write_same, and_self]

/-- Settles O58: the entry of `BRK`, from the state its resolver leaves, which differs in `data_latch` alone. -/
theorem brkEntersTheHandler : Obligations.BrkEntersTheHandler := by
  intro s
  obtain ⟨ha, hx, hy, hsp, hI, hB, hN, hV, hD, hZ, hC⟩ := enterBreak_registers { s with dataLatch := s.a }
  obtain ⟨hhigh, hlow, hstatus⟩ := enterBreak_stacked { s with dataLatch := s.a }
  obtain ⟨lo, hi, hpc, hlog, hlo, hhi⟩ := enterBreak_vector { s with dataLatch := s.a }
  refine ⟨_, _, exec_of_imp rfl s, hsp, hhigh, hlow, hstatus, packP_toNat _, hI, hB, hN, hV, hD, hZ, hC, ha, hx, hy,
    ?cycles, ⟨lo, hi, ?pc, ?log, hlo, hhi⟩, rfl⟩
  case cycles => exact congrArg (· + 7) (enterBreak_cycles _)
  case pc => exact (congrArg BitVec.toNat hpc).trans (joinBytes_toNat hi lo)
  case log =>
    rw [afterBreakPushes_busLog] at hlog
    simp only [stackSlot_eq_stackAddr]
    exact hlog

/-! ### The return (R215) -/

/-- Everything `RTI` does. -/
theorem exec_rti_eq (s : State) : exec .rti s =
    let p := Memory.read s.mem (256 + (s.sp + 1#8).toNat)
    let lo := Memory.read s.mem (256 + (s.sp + 2#8).toNat)
    let hi := Memory.read s.mem (256 + (s.sp + 3#8).toNat)
    .next (retire 6 { unpackP p s with
      dataLatch := s.a, pc := joinBytes hi lo, sp := s.sp + 3#8
      busLog := .read (stackAddr (s.sp + 3#8)) hi :: .read (stackAddr (s.sp + 2#8)) lo ::
        .read (stackAddr (s.sp + 1#8)) p :: s.busLog }) := by
  have htwo : s.sp + 1#8 + 1#8 = s.sp + 2#8 := BitVec.add_assoc ..
  have hthree : s.sp + 2#8 + 1#8 = s.sp + 3#8 := BitVec.add_assoc ..
  rw [exec_of_imp rfl]
  simp only [bodyOf, Instr.mnemonic, rtiBody, returnFromBreak, plain_state, pop_eq, unpackP, htwo, hthree]
  rfl

/-- Settles O59: the three slots are RAM, so what is popped is what the bus holds there. -/
theorem rtiRestoresStatusAndPc : Obligations.RtiRestoresStatusAndPc := by
  intro s
  refine ⟨_, _, _, _, exec_rti_eq s, peek_stackSlot s _, peek_stackSlot s _, peek_stackSlot s _, joinBytes_toNat _ _,
    packP_unpackP _ s, rfl, rfl, rfl, rfl, rfl, rfl, rfl, ?log, rfl⟩
  simp only [stackSlot_eq_stackAddr]
  rfl

end Sys2Proof.Machine
end

section
/-!
SUPPORT. The illegal opcode and the return from the trap (60_exceptions.md R230, R236 to R238): O17 and O60.
-/
namespace Sys2Proof.Machine

/-! ### The illegal opcode (R230) -/

/-- An illegal byte stops Fetch and Decode after the one read. -/
theorem fetchInstr_of_illegal {s : State} (h : (memRead s.pc s).1 ∈ illegalOpcodes) :
    fetchInstr s = (.error (.illegalOpcode (memRead s.pc s).1 s.pc),
      { (memRead s.pc s).2 with pc := s.pc + 1#16 }) := by
  have hrow : lookupOpcode (fetch8 s).1 = none := (lookupOpcode_eq_none_iff _).mpr h
  simp only [fetchInstr, hrow]
  rfl

theorem step_of_fetchInstr_error {s : State} {fault : Fault} {t : State} (h : fetchInstr s = (.error fault, t)) :
    step s = .fault fault := by
  rw [step, h]

theorem hostStep_of_fetchInstr_error {s : State} {fault : Fault} {t : State} (h : fetchInstr s = (.error fault, t)) :
    hostStep s = (.error fault, t) := by
  rw [hostStep, step_of_fetchInstr_error h, h]

/-- Settles O17: the step ends where its fetch ends, and in RAM the fetch is one recorded read. -/
theorem illegalOpcodeIsTheFault : Obligations.IllegalOpcodeIsTheFault := by
  intro s h
  have hfetch := fetchInstr_of_illegal h
  refine ⟨step_of_fetchInstr_error hfetch, hostStep_of_fetchInstr_error hfetch, fun hram => ?_⟩
  rw [hostStep_of_fetchInstr_error hfetch, memRead_of_cellOf (cellOf_ram s.high hram)]

/-! ### The return from the trap (R237, R238) -/

/-- `UnpackP` takes back the six flags that `PackP` packed, and clears `B` (10_state.md R20, R26). -/
theorem unpackP_packP (s t : State) : unpackP (packP s) t = { t with
    flagN := s.flagN, flagV := s.flagV, flagD := s.flagD, flagI := s.flagI, flagZ := s.flagZ, flagC := s.flagC
    flagB := false } := by
  simp [unpackP, packP, bitOf, flagAt_getElem]

/-- `RTI` with the status byte of `saved` and the address `p` on the stack goes on at `p` with the flags of `saved`. -/
theorem exec_rti_of_stacked {s saved : State} {p : Word}
    (hstatus : peek s (stackSlot (s.sp + 1#8)) = some (packP saved))
    (hlow : peek s (stackSlot (s.sp + 2#8)) = some (lowByte p))
    (hhigh : peek s (stackSlot (s.sp + 3#8)) = some (highByte p)) :
    exec .rti s = .next (retire 6 { s with
      flagN := saved.flagN, flagV := saved.flagV, flagD := saved.flagD, flagI := saved.flagI, flagZ := saved.flagZ
      flagC := saved.flagC, flagB := false, dataLatch := s.a, pc := p, sp := s.sp + 3#8
      busLog := .read (stackAddr (s.sp + 3#8)) (highByte p) :: .read (stackAddr (s.sp + 2#8)) (lowByte p) ::
        .read (stackAddr (s.sp + 1#8)) (packP saved) :: s.busLog }) := by
  rw [peek_stackSlot, Option.some.injEq] at hstatus hlow hhigh
  simp only [exec_rti_eq, hstatus, hlow, hhigh, unpackP_packP, joinBytes_highByte_lowByte]

/-- Settles O60: `BRK` stacks the address past its padding byte and the flags with `I` set, and `RTI` takes them from
the same three slots. -/
theorem brkThenRtiResumes : Obligations.BrkThenRtiResumes := by
  intro s
  obtain ⟨t, p, ht, htsp, hhigh, hlow, hstatus, hp, -, -, -, -, -, -, -, hta, htx, hty, htcycles, -⟩ :=
    brkEntersTheHandler s
  have hpacked : p = packP { s with flagI := true, flagB := true } := by
    apply BitVec.eq_of_toNat_eq
    rw [hp, packP_toNat]
    rfl
  have hone : s.sp - 2#8 = t.sp + 1#8 := by bv_omega
  have htwo : s.sp - 1#8 = t.sp + 2#8 := by bv_omega
  have hthree : s.sp = t.sp + 3#8 := by rw [htsp, BitVec.sub_add_cancel]
  rw [hone, hpacked] at hstatus
  rw [htwo] at hlow
  rw [hthree] at hhigh
  simp only [execAll, ht, exec_rti_of_stacked hstatus hlow hhigh]
  exact ⟨_, rfl, rfl, hthree.symm, rfl, rfl, rfl, rfl, rfl, rfl, rfl, hta, htx, hty, congrArg (· + 6) htcycles⟩

end Sys2Proof.Machine
end

section
/-!
SUPPORT. The Reset transaction (70_reset_and_hazards.md R260 to R263), and how a cost follows from a table entry: fixed,
or one more on a crossed page; from that the summary of costs (R268): O8, O9 and O20.
-/
namespace Sys2Proof.Machine

/-! ### Reset (R260 to R263) -/

/-- Settles O8: `hostReset` writes each of these fields with a constant, and `mem`, `high` and `busLog` it copies. -/
theorem resetTransactionState : Obligations.ResetTransactionState := fun _ _ =>
  ⟨rfl, rfl, rfl, rfl, rfl, rfl, rfl, rfl, rfl, rfl, rfl, rfl, rfl, rfl, rfl, rfl⟩

/-- Settles O9: State.reset is itself the state to reset, and a power-on is a Reset, with R35's status byte. -/
theorem resetStateIsAReset : Obligations.ResetStateIsAReset :=
  ⟨⟨State.reset, 0x00#8, 0x0000#16, 0x0000#16, 0, rfl⟩,
    fun vector _ _ => ⟨rfl, rfl, rfl, rfl, rfl, packP_hostReset vector _⟩⟩

/-! ### The cost of a table entry -/

/-- No branch and no page cycle changes what the entry costs: `n`. -/
abbrev FixedCost (n : Nat) (row : OpcodeRow) : Prop :=
  row.baseCycles = n ∧ row.mode ≠ .rel ∧ (row.mode ∈ [.abx, .aby, .izy] → takesPageCycle row.mnemonic = false)

/-- The entry costs `n`, and one more on a crossed page (40_step_and_addressing.md R94). -/
abbrev PagedCost (n : Nat) (row : OpcodeRow) : Prop :=
  row.baseCycles = n ∧ row.mode ≠ .rel ∧ takesPageCycle row.mnemonic = true

/-- The entry of an instruction's opcode stands in the table, and the cost formula takes its base count from it. -/
theorem exists_row_of_instr (i : Instr) : ∃ row ∈ opcodeTable,
    row.mnemonic = i.mnemonic ∧ row.mode = i.mode ∧ row.baseCycles = baseCyclesOf i := by
  obtain ⟨row, hrow, -, hmnemonic, hmode, -⟩ := tableEntryMatchesInstruction i
  exact ⟨row, (findRow_some hrow).1, hmnemonic, hmode, by simp [baseCyclesOf, hrow]⟩

/-- A relative branch has a base count of 2, and its resolver reports no crossing. -/
theorem costOf_of_rel {i : Instr} (h : i.mode = .rel) (s : State) : costOf i s = 2 + branchCycles i s := by
  have hcross : (resolve i s).2 = false := by rw [resolve_of_mode h]; rfl
  simp [costOf, hcross, (baseCyclesOf_bounds i).2.2 h]

theorem costOf_of_not_rel {i : Instr} (h : i.mode ≠ .rel) (s : State) :
    costOf i s = baseCyclesOf i + ((resolve i s).2 && takesPageCycle i.mnemonic).toNat := by
  rw [costOf, branchCycles_eq_zero fun htaken => h (mode_of_branchCondition htaken), Nat.add_zero]

section
variable {i : Instr} {row : OpcodeRow} {n : Nat} (hmnemonic : row.mnemonic = i.mnemonic) (hmode : row.mode = i.mode)
  (hbase : row.baseCycles = baseCyclesOf i)
include hmnemonic hmode hbase

/-- Where the resolver may report a crossing, the mnemonic takes no page cycle. -/
theorem costOf_of_fixedCost (h : FixedCost n row) (s : State) : costOf i s = n := by
  obtain ⟨hn, hrel, hpage⟩ := h
  rw [hmnemonic, hmode] at hpage
  rw [costOf_of_not_rel (hmode ▸ hrel), ← hbase, hn]
  cases hcross : (resolve i s).2 with
  | false => rfl
  | true => rw [hpage (mode_of_pageCross hcross)]; rfl

theorem costOf_of_pagedCost (h : PagedCost n row) (s : State) : costOf i s = n + (resolve i s).2.toNat := by
  obtain ⟨hn, hrel, hpage⟩ := h
  rw [costOf_of_not_rel (hmode ▸ hrel), ← hbase, hn, ← hmnemonic, hpage, Bool.and_true]

end

/-! ### The summary of costs (R268) -/

/-- Settles O20. Over the instruction's table entry each clause names a class of entries, and every entry of the class
has the clause's cost: paged for the reads that index, fixed for the rest. A relative branch has its branch extra. -/
theorem costsPerClass : Obligations.CostsPerClass := by
  intro i s
  obtain ⟨row, hrow, hmnemonic, hmode, hbase⟩ := exists_row_of_instr i
  have hfixed (n : Nat) (h : FixedCost n row) := costOf_of_fixedCost hmnemonic hmode hbase h s
  have hpaged (n : Nat) (h : PagedCost n row) := costOf_of_pagedCost hmnemonic hmode hbase h s
  have hrel (h : row.mode = .rel) := costOf_of_rel (hmode ▸ h) s
  simp only [← hmnemonic, ← hmode]
  refine ⟨?_, fun himp => ?_, ?_, ?_, fun hread => ⟨?_, ?_, ?_, ?readIndexed, ?_, ?readIzy⟩,
    fun hstore => ⟨?_, ?_, ?_, ?_, ?_⟩, fun hrmw => ⟨?_, ?_, ?_, ?_⟩, hrel, ?_, ?_, ?_⟩
  case readIndexed | readIzy =>
    refine fun hclass => hpaged _ ?_
    clear hmnemonic hmode hbase hfixed hpaged hrel
    revert row
    decide +kernel
  all_goals
    refine fun hclass => hfixed _ ?_
    clear hmnemonic hmode hbase hfixed hpaged hrel
    revert row
    decide +kernel

end Sys2Proof.Machine
end
